-- ==== Sys2Proof/Word.lean ====
section
/-! DEFINITION. The two widths of the machine (R7): an 8-bit data word and a 16-bit address, pair, pc and sp.
All arithmetic of `Word` wraps modulo 65536 and of `Byte` modulo 256, as R9 asks of every write. -/

namespace Sys2Proof

/-- `u8` of R9: a data byte, a port number, an opcode. -/
abbrev Byte := BitVec 8

/-- `u16` of R9: an address, a register pair, pc or sp. -/
abbrev Word := BitVec 16

end Sys2Proof
end

