-- ==== Sys2Proof/Config.lean ====
section
/-! DEFINITION. What R8 leaves to whoever builds or drives the core: the two parameters fixed for a machine
(`UNDOC_ALIAS`, `COND_CYCLES`), and the free values of the I/O handler (`IO`). The fourth parameter of R8, `INIT`, is the
structure `Init` of Machine/State.lean. -/

namespace Sys2Proof

/-- `UNDOC_ALIAS` (R8, R161): what the bytes 0xCB, 0xD9, 0xDD, 0xED and 0xFD mean. -/
inductive UndocAlias
  | nop   -- one-byte no-ops, the default of R8
  | chip  -- JMP, RET and CALL
  deriving DecidableEq, Repr

/-- `COND_CYCLES` (R8, R57): which of its two costs a conditional call or return reports. -/
inductive CondCycles
  | taken
  | notTaken
  deriving DecidableEq, Repr

/-- The two parameters a machine is built with. They stand in `State.cfg`, no transition writes them, and a statement about
every state holds for every setting of them (assumption 2). -/
structure Params where
  undocAlias : UndocAlias
  condCycles : CondCycles
  deriving DecidableEq, Repr

/-- The setting of `State.reset`: `UNDOC_ALIAS = nop` is the default of R8. `COND_CYCLES` is OPEN there.
DESIGN CHOICE (assumption 3), unsafe: `taken`, the setting spec/95_test_vectors.md works with. -/
def Params.default : Params := { undocAlias := .nop, condCycles := .taken }

/-- FREE VALUE (R153, assumption 5), safe: the byte the handler answers a read of `port` with. R153 calls it a draw from an
oracle that may depend on the port, the state given and every earlier transaction, with no law; `given` is that state (it
holds the log of the earlier transactions) and `draw` the number of the step. `σ` is the model's State, which is defined
later. It has no body: nothing can be proved of its value. -/
opaque Config.ioRead {σ : Type} (given : σ) (draw : Nat) (port : Byte) : Byte

/-- FREE VALUE (R8 `IO`, R182, assumption 4), safe: whether the host supplies a handler to the step numbered `draw`, which
it chooses step by step, knowing the state `given`. It has no body: nothing can be proved of its value. -/
opaque Config.ioPresent {σ : Type} (given : σ) (draw : Nat) : Bool

end Sys2Proof
end

