-- ==== Sys2Proof/Syntax.lean ====
section
/-! DEFINITION. The instructions. `Instr` has one constructor per row of spec/opcode_table.json (R55: one identity per opcode
byte), each with the operand bytes its row takes. `Form` is the same set as the rules of 40_data_transfer.md to
44_stack_io_control.md speak of it, one constructor per rule with the codes of R50 to R53 as its operands; `Form.instr` and
`Instr.form` go between the two, so that one statement can speak of all the rows of a rule. -/

namespace Sys2Proof

/-- The seven 8-bit registers of R13, in the order of their codes in R50. -/
inductive Reg
  | b | c | d | e | h | l | a
  deriving DecidableEq, Repr

/-- What a 3-bit code `ddd` or `sss` names (R50): a register, or M, the byte at HL. -/
inductive Opnd
  | reg (r : Reg)
  | m
  deriving DecidableEq, Repr

/-- The pairs of LXI, INX, DCX and DAD (R51). -/
inductive Pair
  | bc | de | hl | sp
  deriving DecidableEq, Repr

/-- The pairs of PUSH and POP (R51); `psw` is A and the flag byte (R31). -/
inductive StackPair
  | bc | de | hl | psw
  deriving DecidableEq, Repr

/-- The two pairs of LDAX and STAX (R51, R74, R75). -/
inductive IndPair
  | bc | de
  deriving DecidableEq, Repr

/-- The eight conditions of R52, in the order of their codes. -/
inductive Cond
  | nz | z | nc | c | po | pe | p | m
  deriving DecidableEq, Repr

/-- The eight accumulator operations of R53, in the order of their codes. -/
inductive AluOp
  | add | adc | sub | sbb | ana | xra | ora | cmp
  deriving DecidableEq, Repr

/-- The three undocumented bytes that the setting `chip` reads as CALL (R161). -/
inductive CallAlias
  | dd | ed | fd
  deriving DecidableEq, Repr

/-- One constructor per opcode byte (R55): the rows that take operand bytes, then those that take none, each in the table's
order (Lean's compiled code has no tags above 244 for a constructor with a field). An operand `d8`, `d16` or `a16` is
that of R54. Four of the five bytes of R161 have an address only under `UNDOC_ALIAS = chip`, so theirs is an Option: `none` is the one-byte
instruction of the default setting. -/
inductive Instr
  | lxiB (d16 : Word)  -- 01  LXI_B_d16
  | mviB (d8 : Byte)  -- 06  MVI_B_d8
  | mviC (d8 : Byte)  -- 0E  MVI_C_d8
  | lxiD (d16 : Word)  -- 11  LXI_D_d16
  | mviD (d8 : Byte)  -- 16  MVI_D_d8
  | mviE (d8 : Byte)  -- 1E  MVI_E_d8
  | lxiH (d16 : Word)  -- 21  LXI_H_d16
  | shld (a16 : Word)  -- 22  SHLD_a16
  | mviH (d8 : Byte)  -- 26  MVI_H_d8
  | lhld (a16 : Word)  -- 2A  LHLD_a16
  | mviL (d8 : Byte)  -- 2E  MVI_L_d8
  | lxiSp (d16 : Word)  -- 31  LXI_SP_d16
  | sta (a16 : Word)  -- 32  STA_a16
  | mviM (d8 : Byte)  -- 36  MVI_M_d8
  | lda (a16 : Word)  -- 3A  LDA_a16
  | mviA (d8 : Byte)  -- 3E  MVI_A_d8
  | jnz (a16 : Word)  -- C2  JNZ_a16
  | jmp (a16 : Word)  -- C3  JMP_a16
  | cnz (a16 : Word)  -- C4  CNZ_a16
  | adi (d8 : Byte)  -- C6  ADI_d8
  | jz (a16 : Word)  -- CA  JZ_a16
  | undocCB (a16 : Option Word)  -- CB  *JMP
  | cz (a16 : Word)  -- CC  CZ_a16
  | call (a16 : Word)  -- CD  CALL_a16
  | aci (d8 : Byte)  -- CE  ACI_d8
  | jnc (a16 : Word)  -- D2  JNC_a16
  | outp (d8 : Byte)  -- D3  OUT_d8
  | cnc (a16 : Word)  -- D4  CNC_a16
  | sui (d8 : Byte)  -- D6  SUI_d8
  | jc (a16 : Word)  -- DA  JC_a16
  | inp (d8 : Byte)  -- DB  IN_d8
  | cc (a16 : Word)  -- DC  CC_a16
  | undocDD (a16 : Option Word)  -- DD  *CALL
  | sbi (d8 : Byte)  -- DE  SBI_d8
  | jpo (a16 : Word)  -- E2  JPO_a16
  | cpo (a16 : Word)  -- E4  CPO_a16
  | ani (d8 : Byte)  -- E6  ANI_d8
  | jpe (a16 : Word)  -- EA  JPE_a16
  | cpe (a16 : Word)  -- EC  CPE_a16
  | undocED (a16 : Option Word)  -- ED  *CALL
  | xri (d8 : Byte)  -- EE  XRI_d8
  | jp (a16 : Word)  -- F2  JP_a16
  | cp (a16 : Word)  -- F4  CP_a16
  | ori (d8 : Byte)  -- F6  ORI_d8
  | jm (a16 : Word)  -- FA  JM_a16
  | cm (a16 : Word)  -- FC  CM_a16
  | undocFD (a16 : Option Word)  -- FD  *CALL
  | cpi (d8 : Byte)  -- FE  CPI_d8
  | nop  -- 00  NOP
  | staxB  -- 02  STAX_B
  | inxB  -- 03  INX_B
  | inrB  -- 04  INR_B
  | dcrB  -- 05  DCR_B
  | rlc  -- 07  RLC
  | nop08  -- 08  *NOP
  | dadB  -- 09  DAD_B
  | ldaxB  -- 0A  LDAX_B
  | dcxB  -- 0B  DCX_B
  | inrC  -- 0C  INR_C
  | dcrC  -- 0D  DCR_C
  | rrc  -- 0F  RRC
  | nop10  -- 10  *NOP
  | staxD  -- 12  STAX_D
  | inxD  -- 13  INX_D
  | inrD  -- 14  INR_D
  | dcrD  -- 15  DCR_D
  | ral  -- 17  RAL
  | nop18  -- 18  *NOP
  | dadD  -- 19  DAD_D
  | ldaxD  -- 1A  LDAX_D
  | dcxD  -- 1B  DCX_D
  | inrE  -- 1C  INR_E
  | dcrE  -- 1D  DCR_E
  | rar  -- 1F  RAR
  | nop20  -- 20  *NOP
  | inxH  -- 23  INX_H
  | inrH  -- 24  INR_H
  | dcrH  -- 25  DCR_H
  | daa  -- 27  DAA
  | nop28  -- 28  *NOP
  | dadH  -- 29  DAD_H
  | dcxH  -- 2B  DCX_H
  | inrL  -- 2C  INR_L
  | dcrL  -- 2D  DCR_L
  | cma  -- 2F  CMA
  | nop30  -- 30  *NOP
  | inxSp  -- 33  INX_SP
  | inrM  -- 34  INR_M
  | dcrM  -- 35  DCR_M
  | stc  -- 37  STC
  | nop38  -- 38  *NOP
  | dadSp  -- 39  DAD_SP
  | dcxSp  -- 3B  DCX_SP
  | inrA  -- 3C  INR_A
  | dcrA  -- 3D  DCR_A
  | cmc  -- 3F  CMC
  | movBB  -- 40  MOV_B_B
  | movBC  -- 41  MOV_B_C
  | movBD  -- 42  MOV_B_D
  | movBE  -- 43  MOV_B_E
  | movBH  -- 44  MOV_B_H
  | movBL  -- 45  MOV_B_L
  | movBM  -- 46  MOV_B_M
  | movBA  -- 47  MOV_B_A
  | movCB  -- 48  MOV_C_B
  | movCC  -- 49  MOV_C_C
  | movCD  -- 4A  MOV_C_D
  | movCE  -- 4B  MOV_C_E
  | movCH  -- 4C  MOV_C_H
  | movCL  -- 4D  MOV_C_L
  | movCM  -- 4E  MOV_C_M
  | movCA  -- 4F  MOV_C_A
  | movDB  -- 50  MOV_D_B
  | movDC  -- 51  MOV_D_C
  | movDD  -- 52  MOV_D_D
  | movDE  -- 53  MOV_D_E
  | movDH  -- 54  MOV_D_H
  | movDL  -- 55  MOV_D_L
  | movDM  -- 56  MOV_D_M
  | movDA  -- 57  MOV_D_A
  | movEB  -- 58  MOV_E_B
  | movEC  -- 59  MOV_E_C
  | movED  -- 5A  MOV_E_D
  | movEE  -- 5B  MOV_E_E
  | movEH  -- 5C  MOV_E_H
  | movEL  -- 5D  MOV_E_L
  | movEM  -- 5E  MOV_E_M
  | movEA  -- 5F  MOV_E_A
  | movHB  -- 60  MOV_H_B
  | movHC  -- 61  MOV_H_C
  | movHD  -- 62  MOV_H_D
  | movHE  -- 63  MOV_H_E
  | movHH  -- 64  MOV_H_H
  | movHL  -- 65  MOV_H_L
  | movHM  -- 66  MOV_H_M
  | movHA  -- 67  MOV_H_A
  | movLB  -- 68  MOV_L_B
  | movLC  -- 69  MOV_L_C
  | movLD  -- 6A  MOV_L_D
  | movLE  -- 6B  MOV_L_E
  | movLH  -- 6C  MOV_L_H
  | movLL  -- 6D  MOV_L_L
  | movLM  -- 6E  MOV_L_M
  | movLA  -- 6F  MOV_L_A
  | movMB  -- 70  MOV_M_B
  | movMC  -- 71  MOV_M_C
  | movMD  -- 72  MOV_M_D
  | movME  -- 73  MOV_M_E
  | movMH  -- 74  MOV_M_H
  | movML  -- 75  MOV_M_L
  | hlt  -- 76  HLT
  | movMA  -- 77  MOV_M_A
  | movAB  -- 78  MOV_A_B
  | movAC  -- 79  MOV_A_C
  | movAD  -- 7A  MOV_A_D
  | movAE  -- 7B  MOV_A_E
  | movAH  -- 7C  MOV_A_H
  | movAL  -- 7D  MOV_A_L
  | movAM  -- 7E  MOV_A_M
  | movAA  -- 7F  MOV_A_A
  | addB  -- 80  ADD_B
  | addC  -- 81  ADD_C
  | addD  -- 82  ADD_D
  | addE  -- 83  ADD_E
  | addH  -- 84  ADD_H
  | addL  -- 85  ADD_L
  | addM  -- 86  ADD_M
  | addA  -- 87  ADD_A
  | adcB  -- 88  ADC_B
  | adcC  -- 89  ADC_C
  | adcD  -- 8A  ADC_D
  | adcE  -- 8B  ADC_E
  | adcH  -- 8C  ADC_H
  | adcL  -- 8D  ADC_L
  | adcM  -- 8E  ADC_M
  | adcA  -- 8F  ADC_A
  | subB  -- 90  SUB_B
  | subC  -- 91  SUB_C
  | subD  -- 92  SUB_D
  | subE  -- 93  SUB_E
  | subH  -- 94  SUB_H
  | subL  -- 95  SUB_L
  | subM  -- 96  SUB_M
  | subA  -- 97  SUB_A
  | sbbB  -- 98  SBB_B
  | sbbC  -- 99  SBB_C
  | sbbD  -- 9A  SBB_D
  | sbbE  -- 9B  SBB_E
  | sbbH  -- 9C  SBB_H
  | sbbL  -- 9D  SBB_L
  | sbbM  -- 9E  SBB_M
  | sbbA  -- 9F  SBB_A
  | anaB  -- A0  ANA_B
  | anaC  -- A1  ANA_C
  | anaD  -- A2  ANA_D
  | anaE  -- A3  ANA_E
  | anaH  -- A4  ANA_H
  | anaL  -- A5  ANA_L
  | anaM  -- A6  ANA_M
  | anaA  -- A7  ANA_A
  | xraB  -- A8  XRA_B
  | xraC  -- A9  XRA_C
  | xraD  -- AA  XRA_D
  | xraE  -- AB  XRA_E
  | xraH  -- AC  XRA_H
  | xraL  -- AD  XRA_L
  | xraM  -- AE  XRA_M
  | xraA  -- AF  XRA_A
  | oraB  -- B0  ORA_B
  | oraC  -- B1  ORA_C
  | oraD  -- B2  ORA_D
  | oraE  -- B3  ORA_E
  | oraH  -- B4  ORA_H
  | oraL  -- B5  ORA_L
  | oraM  -- B6  ORA_M
  | oraA  -- B7  ORA_A
  | cmpB  -- B8  CMP_B
  | cmpC  -- B9  CMP_C
  | cmpD  -- BA  CMP_D
  | cmpE  -- BB  CMP_E
  | cmpH  -- BC  CMP_H
  | cmpL  -- BD  CMP_L
  | cmpM  -- BE  CMP_M
  | cmpA  -- BF  CMP_A
  | rnz  -- C0  RNZ
  | popB  -- C1  POP_B
  | pushB  -- C5  PUSH_B
  | rst0  -- C7  RST_0
  | rz  -- C8  RZ
  | ret  -- C9  RET
  | rst1  -- CF  RST_1
  | rnc  -- D0  RNC
  | popD  -- D1  POP_D
  | pushD  -- D5  PUSH_D
  | rst2  -- D7  RST_2
  | rc  -- D8  RC
  | undocD9  -- D9  *RET
  | rst3  -- DF  RST_3
  | rpo  -- E0  RPO
  | popH  -- E1  POP_H
  | xthl  -- E3  XTHL
  | pushH  -- E5  PUSH_H
  | rst4  -- E7  RST_4
  | rpe  -- E8  RPE
  | pchl  -- E9  PCHL
  | xchg  -- EB  XCHG
  | rst5  -- EF  RST_5
  | rp  -- F0  RP
  | popPsw  -- F1  POP_PSW
  | di  -- F3  DI
  | pushPsw  -- F5  PUSH_PSW
  | rst6  -- F7  RST_6
  | rm  -- F8  RM
  | sphl  -- F9  SPHL
  | ei  -- FB  EI
  | rst7  -- FF  RST_7
  deriving DecidableEq, Repr

/-- The instructions as the rules give them, one constructor per rule (R64 to R161). -/
inductive Form
  | nop                                        -- R159
  | nopAlias (n : Fin 7)                       -- R160, yyy = n + 1
  | movRR (dst src : Reg)                          -- R64
  | movRM (dst : Reg)                            -- R65
  | movMR (src : Reg)                            -- R66
  | mviR (dst : Reg) (d8 : Byte)                 -- R67
  | mviM (d8 : Byte)                           -- R68
  | lxi (p : Pair) (d16 : Word)                -- R69
  | lda (a16 : Word)                           -- R70
  | sta (a16 : Word)                           -- R71
  | lhld (a16 : Word)                          -- R72
  | shld (a16 : Word)                          -- R73
  | ldax (p : IndPair)                         -- R74
  | stax (p : IndPair)                         -- R75
  | xchg                                       -- R76
  | alu (op : AluOp) (src : Opnd)                -- R80 to R83, R95 to R98
  | aluImm (op : AluOp) (d8 : Byte)            -- R84 to R87, R99 to R102
  | inr (dst : Opnd)                             -- R88
  | dcr (dst : Opnd)                             -- R89
  | inx (p : Pair)                             -- R90
  | dcx (p : Pair)                             -- R91
  | dad (p : Pair)                             -- R92
  | daa                                        -- R93
  | rlc | rrc | ral | rar                      -- R103 to R106
  | cma | cmc | stc                            -- R107 to R109
  | jmp (a16 : Word)                           -- R113
  | jcc (cond : Cond) (a16 : Word)                -- R114 to R122
  | call (a16 : Word)                          -- R123
  | ccc (cond : Cond) (a16 : Word)                -- R124 to R132
  | ret                                        -- R133
  | rcc (cond : Cond)                             -- R134 to R142
  | rst (n : Fin 8)                            -- R143
  | pchl                                       -- R144
  | push (p : StackPair)                       -- R145, R146
  | pop (p : StackPair)                        -- R147, R148
  | xthl                                       -- R149
  | sphl                                       -- R150
  | inp (port : Byte)                          -- R151
  | outp (port : Byte)                         -- R152
  | ei | di                                    -- R155, R156
  | hlt                                        -- R157
  | undocJmp (a16 : Option Word)               -- R161, 0xCB
  | undocRet                                   -- R161, 0xD9
  | undocCall (k : CallAlias) (a16 : Option Word)  -- R161, 0xDD, 0xED, 0xFD
  deriving DecidableEq, Repr

/-- The rule's view of a row of the table. -/
def Instr.form (i : Instr) : Form :=
  match i with
  | .nop => .nop
  | .lxiB d16 => .lxi .bc d16
  | .staxB => .stax .bc
  | .inxB => .inx .bc
  | .inrB => .inr (.reg .b)
  | .dcrB => .dcr (.reg .b)
  | .mviB d8 => .mviR .b d8
  | .rlc => .rlc
  | .nop08 => .nopAlias 0
  | .dadB => .dad .bc
  | .ldaxB => .ldax .bc
  | .dcxB => .dcx .bc
  | .inrC => .inr (.reg .c)
  | .dcrC => .dcr (.reg .c)
  | .mviC d8 => .mviR .c d8
  | .rrc => .rrc
  | .nop10 => .nopAlias 1
  | .lxiD d16 => .lxi .de d16
  | .staxD => .stax .de
  | .inxD => .inx .de
  | .inrD => .inr (.reg .d)
  | .dcrD => .dcr (.reg .d)
  | .mviD d8 => .mviR .d d8
  | .ral => .ral
  | .nop18 => .nopAlias 2
  | .dadD => .dad .de
  | .ldaxD => .ldax .de
  | .dcxD => .dcx .de
  | .inrE => .inr (.reg .e)
  | .dcrE => .dcr (.reg .e)
  | .mviE d8 => .mviR .e d8
  | .rar => .rar
  | .nop20 => .nopAlias 3
  | .lxiH d16 => .lxi .hl d16
  | .shld a16 => .shld a16
  | .inxH => .inx .hl
  | .inrH => .inr (.reg .h)
  | .dcrH => .dcr (.reg .h)
  | .mviH d8 => .mviR .h d8
  | .daa => .daa
  | .nop28 => .nopAlias 4
  | .dadH => .dad .hl
  | .lhld a16 => .lhld a16
  | .dcxH => .dcx .hl
  | .inrL => .inr (.reg .l)
  | .dcrL => .dcr (.reg .l)
  | .mviL d8 => .mviR .l d8
  | .cma => .cma
  | .nop30 => .nopAlias 5
  | .lxiSp d16 => .lxi .sp d16
  | .sta a16 => .sta a16
  | .inxSp => .inx .sp
  | .inrM => .inr .m
  | .dcrM => .dcr .m
  | .mviM d8 => .mviM d8
  | .stc => .stc
  | .nop38 => .nopAlias 6
  | .dadSp => .dad .sp
  | .lda a16 => .lda a16
  | .dcxSp => .dcx .sp
  | .inrA => .inr (.reg .a)
  | .dcrA => .dcr (.reg .a)
  | .mviA d8 => .mviR .a d8
  | .cmc => .cmc
  | .movBB => .movRR .b .b
  | .movBC => .movRR .b .c
  | .movBD => .movRR .b .d
  | .movBE => .movRR .b .e
  | .movBH => .movRR .b .h
  | .movBL => .movRR .b .l
  | .movBM => .movRM .b
  | .movBA => .movRR .b .a
  | .movCB => .movRR .c .b
  | .movCC => .movRR .c .c
  | .movCD => .movRR .c .d
  | .movCE => .movRR .c .e
  | .movCH => .movRR .c .h
  | .movCL => .movRR .c .l
  | .movCM => .movRM .c
  | .movCA => .movRR .c .a
  | .movDB => .movRR .d .b
  | .movDC => .movRR .d .c
  | .movDD => .movRR .d .d
  | .movDE => .movRR .d .e
  | .movDH => .movRR .d .h
  | .movDL => .movRR .d .l
  | .movDM => .movRM .d
  | .movDA => .movRR .d .a
  | .movEB => .movRR .e .b
  | .movEC => .movRR .e .c
  | .movED => .movRR .e .d
  | .movEE => .movRR .e .e
  | .movEH => .movRR .e .h
  | .movEL => .movRR .e .l
  | .movEM => .movRM .e
  | .movEA => .movRR .e .a
  | .movHB => .movRR .h .b
  | .movHC => .movRR .h .c
  | .movHD => .movRR .h .d
  | .movHE => .movRR .h .e
  | .movHH => .movRR .h .h
  | .movHL => .movRR .h .l
  | .movHM => .movRM .h
  | .movHA => .movRR .h .a
  | .movLB => .movRR .l .b
  | .movLC => .movRR .l .c
  | .movLD => .movRR .l .d
  | .movLE => .movRR .l .e
  | .movLH => .movRR .l .h
  | .movLL => .movRR .l .l
  | .movLM => .movRM .l
  | .movLA => .movRR .l .a
  | .movMB => .movMR .b
  | .movMC => .movMR .c
  | .movMD => .movMR .d
  | .movME => .movMR .e
  | .movMH => .movMR .h
  | .movML => .movMR .l
  | .hlt => .hlt
  | .movMA => .movMR .a
  | .movAB => .movRR .a .b
  | .movAC => .movRR .a .c
  | .movAD => .movRR .a .d
  | .movAE => .movRR .a .e
  | .movAH => .movRR .a .h
  | .movAL => .movRR .a .l
  | .movAM => .movRM .a
  | .movAA => .movRR .a .a
  | .addB => .alu .add (.reg .b)
  | .addC => .alu .add (.reg .c)
  | .addD => .alu .add (.reg .d)
  | .addE => .alu .add (.reg .e)
  | .addH => .alu .add (.reg .h)
  | .addL => .alu .add (.reg .l)
  | .addM => .alu .add .m
  | .addA => .alu .add (.reg .a)
  | .adcB => .alu .adc (.reg .b)
  | .adcC => .alu .adc (.reg .c)
  | .adcD => .alu .adc (.reg .d)
  | .adcE => .alu .adc (.reg .e)
  | .adcH => .alu .adc (.reg .h)
  | .adcL => .alu .adc (.reg .l)
  | .adcM => .alu .adc .m
  | .adcA => .alu .adc (.reg .a)
  | .subB => .alu .sub (.reg .b)
  | .subC => .alu .sub (.reg .c)
  | .subD => .alu .sub (.reg .d)
  | .subE => .alu .sub (.reg .e)
  | .subH => .alu .sub (.reg .h)
  | .subL => .alu .sub (.reg .l)
  | .subM => .alu .sub .m
  | .subA => .alu .sub (.reg .a)
  | .sbbB => .alu .sbb (.reg .b)
  | .sbbC => .alu .sbb (.reg .c)
  | .sbbD => .alu .sbb (.reg .d)
  | .sbbE => .alu .sbb (.reg .e)
  | .sbbH => .alu .sbb (.reg .h)
  | .sbbL => .alu .sbb (.reg .l)
  | .sbbM => .alu .sbb .m
  | .sbbA => .alu .sbb (.reg .a)
  | .anaB => .alu .ana (.reg .b)
  | .anaC => .alu .ana (.reg .c)
  | .anaD => .alu .ana (.reg .d)
  | .anaE => .alu .ana (.reg .e)
  | .anaH => .alu .ana (.reg .h)
  | .anaL => .alu .ana (.reg .l)
  | .anaM => .alu .ana .m
  | .anaA => .alu .ana (.reg .a)
  | .xraB => .alu .xra (.reg .b)
  | .xraC => .alu .xra (.reg .c)
  | .xraD => .alu .xra (.reg .d)
  | .xraE => .alu .xra (.reg .e)
  | .xraH => .alu .xra (.reg .h)
  | .xraL => .alu .xra (.reg .l)
  | .xraM => .alu .xra .m
  | .xraA => .alu .xra (.reg .a)
  | .oraB => .alu .ora (.reg .b)
  | .oraC => .alu .ora (.reg .c)
  | .oraD => .alu .ora (.reg .d)
  | .oraE => .alu .ora (.reg .e)
  | .oraH => .alu .ora (.reg .h)
  | .oraL => .alu .ora (.reg .l)
  | .oraM => .alu .ora .m
  | .oraA => .alu .ora (.reg .a)
  | .cmpB => .alu .cmp (.reg .b)
  | .cmpC => .alu .cmp (.reg .c)
  | .cmpD => .alu .cmp (.reg .d)
  | .cmpE => .alu .cmp (.reg .e)
  | .cmpH => .alu .cmp (.reg .h)
  | .cmpL => .alu .cmp (.reg .l)
  | .cmpM => .alu .cmp .m
  | .cmpA => .alu .cmp (.reg .a)
  | .rnz => .rcc .nz
  | .popB => .pop .bc
  | .jnz a16 => .jcc .nz a16
  | .jmp a16 => .jmp a16
  | .cnz a16 => .ccc .nz a16
  | .pushB => .push .bc
  | .adi d8 => .aluImm .add d8
  | .rst0 => .rst 0
  | .rz => .rcc .z
  | .ret => .ret
  | .jz a16 => .jcc .z a16
  | .undocCB a16 => .undocJmp a16
  | .cz a16 => .ccc .z a16
  | .call a16 => .call a16
  | .aci d8 => .aluImm .adc d8
  | .rst1 => .rst 1
  | .rnc => .rcc .nc
  | .popD => .pop .de
  | .jnc a16 => .jcc .nc a16
  | .outp d8 => .outp d8
  | .cnc a16 => .ccc .nc a16
  | .pushD => .push .de
  | .sui d8 => .aluImm .sub d8
  | .rst2 => .rst 2
  | .rc => .rcc .c
  | .undocD9 => .undocRet
  | .jc a16 => .jcc .c a16
  | .inp d8 => .inp d8
  | .cc a16 => .ccc .c a16
  | .undocDD a16 => .undocCall .dd a16
  | .sbi d8 => .aluImm .sbb d8
  | .rst3 => .rst 3
  | .rpo => .rcc .po
  | .popH => .pop .hl
  | .jpo a16 => .jcc .po a16
  | .xthl => .xthl
  | .cpo a16 => .ccc .po a16
  | .pushH => .push .hl
  | .ani d8 => .aluImm .ana d8
  | .rst4 => .rst 4
  | .rpe => .rcc .pe
  | .pchl => .pchl
  | .jpe a16 => .jcc .pe a16
  | .xchg => .xchg
  | .cpe a16 => .ccc .pe a16
  | .undocED a16 => .undocCall .ed a16
  | .xri d8 => .aluImm .xra d8
  | .rst5 => .rst 5
  | .rp => .rcc .p
  | .popPsw => .pop .psw
  | .jp a16 => .jcc .p a16
  | .di => .di
  | .cp a16 => .ccc .p a16
  | .pushPsw => .push .psw
  | .ori d8 => .aluImm .ora d8
  | .rst6 => .rst 6
  | .rm => .rcc .m
  | .sphl => .sphl
  | .jm a16 => .jcc .m a16
  | .ei => .ei
  | .cm a16 => .ccc .m a16
  | .undocFD a16 => .undocCall .fd a16
  | .cpi d8 => .aluImm .cmp d8
  | .rst7 => .rst 7

/-- The row of the table that a rule's form names. -/
def Form.instr (f : Form) : Instr :=
  match f with
  | .nop => .nop
  | .lxi .bc d16 => .lxiB d16
  | .stax .bc => .staxB
  | .inx .bc => .inxB
  | .inr (.reg .b) => .inrB
  | .dcr (.reg .b) => .dcrB
  | .mviR .b d8 => .mviB d8
  | .rlc => .rlc
  | .nopAlias 0 => .nop08
  | .dad .bc => .dadB
  | .ldax .bc => .ldaxB
  | .dcx .bc => .dcxB
  | .inr (.reg .c) => .inrC
  | .dcr (.reg .c) => .dcrC
  | .mviR .c d8 => .mviC d8
  | .rrc => .rrc
  | .nopAlias 1 => .nop10
  | .lxi .de d16 => .lxiD d16
  | .stax .de => .staxD
  | .inx .de => .inxD
  | .inr (.reg .d) => .inrD
  | .dcr (.reg .d) => .dcrD
  | .mviR .d d8 => .mviD d8
  | .ral => .ral
  | .nopAlias 2 => .nop18
  | .dad .de => .dadD
  | .ldax .de => .ldaxD
  | .dcx .de => .dcxD
  | .inr (.reg .e) => .inrE
  | .dcr (.reg .e) => .dcrE
  | .mviR .e d8 => .mviE d8
  | .rar => .rar
  | .nopAlias 3 => .nop20
  | .lxi .hl d16 => .lxiH d16
  | .shld a16 => .shld a16
  | .inx .hl => .inxH
  | .inr (.reg .h) => .inrH
  | .dcr (.reg .h) => .dcrH
  | .mviR .h d8 => .mviH d8
  | .daa => .daa
  | .nopAlias 4 => .nop28
  | .dad .hl => .dadH
  | .lhld a16 => .lhld a16
  | .dcx .hl => .dcxH
  | .inr (.reg .l) => .inrL
  | .dcr (.reg .l) => .dcrL
  | .mviR .l d8 => .mviL d8
  | .cma => .cma
  | .nopAlias 5 => .nop30
  | .lxi .sp d16 => .lxiSp d16
  | .sta a16 => .sta a16
  | .inx .sp => .inxSp
  | .inr .m => .inrM
  | .dcr .m => .dcrM
  | .mviM d8 => .mviM d8
  | .stc => .stc
  | .nopAlias 6 => .nop38
  | .dad .sp => .dadSp
  | .lda a16 => .lda a16
  | .dcx .sp => .dcxSp
  | .inr (.reg .a) => .inrA
  | .dcr (.reg .a) => .dcrA
  | .mviR .a d8 => .mviA d8
  | .cmc => .cmc
  | .movRR .b .b => .movBB
  | .movRR .b .c => .movBC
  | .movRR .b .d => .movBD
  | .movRR .b .e => .movBE
  | .movRR .b .h => .movBH
  | .movRR .b .l => .movBL
  | .movRM .b => .movBM
  | .movRR .b .a => .movBA
  | .movRR .c .b => .movCB
  | .movRR .c .c => .movCC
  | .movRR .c .d => .movCD
  | .movRR .c .e => .movCE
  | .movRR .c .h => .movCH
  | .movRR .c .l => .movCL
  | .movRM .c => .movCM
  | .movRR .c .a => .movCA
  | .movRR .d .b => .movDB
  | .movRR .d .c => .movDC
  | .movRR .d .d => .movDD
  | .movRR .d .e => .movDE
  | .movRR .d .h => .movDH
  | .movRR .d .l => .movDL
  | .movRM .d => .movDM
  | .movRR .d .a => .movDA
  | .movRR .e .b => .movEB
  | .movRR .e .c => .movEC
  | .movRR .e .d => .movED
  | .movRR .e .e => .movEE
  | .movRR .e .h => .movEH
  | .movRR .e .l => .movEL
  | .movRM .e => .movEM
  | .movRR .e .a => .movEA
  | .movRR .h .b => .movHB
  | .movRR .h .c => .movHC
  | .movRR .h .d => .movHD
  | .movRR .h .e => .movHE
  | .movRR .h .h => .movHH
  | .movRR .h .l => .movHL
  | .movRM .h => .movHM
  | .movRR .h .a => .movHA
  | .movRR .l .b => .movLB
  | .movRR .l .c => .movLC
  | .movRR .l .d => .movLD
  | .movRR .l .e => .movLE
  | .movRR .l .h => .movLH
  | .movRR .l .l => .movLL
  | .movRM .l => .movLM
  | .movRR .l .a => .movLA
  | .movMR .b => .movMB
  | .movMR .c => .movMC
  | .movMR .d => .movMD
  | .movMR .e => .movME
  | .movMR .h => .movMH
  | .movMR .l => .movML
  | .hlt => .hlt
  | .movMR .a => .movMA
  | .movRR .a .b => .movAB
  | .movRR .a .c => .movAC
  | .movRR .a .d => .movAD
  | .movRR .a .e => .movAE
  | .movRR .a .h => .movAH
  | .movRR .a .l => .movAL
  | .movRM .a => .movAM
  | .movRR .a .a => .movAA
  | .alu .add (.reg .b) => .addB
  | .alu .add (.reg .c) => .addC
  | .alu .add (.reg .d) => .addD
  | .alu .add (.reg .e) => .addE
  | .alu .add (.reg .h) => .addH
  | .alu .add (.reg .l) => .addL
  | .alu .add .m => .addM
  | .alu .add (.reg .a) => .addA
  | .alu .adc (.reg .b) => .adcB
  | .alu .adc (.reg .c) => .adcC
  | .alu .adc (.reg .d) => .adcD
  | .alu .adc (.reg .e) => .adcE
  | .alu .adc (.reg .h) => .adcH
  | .alu .adc (.reg .l) => .adcL
  | .alu .adc .m => .adcM
  | .alu .adc (.reg .a) => .adcA
  | .alu .sub (.reg .b) => .subB
  | .alu .sub (.reg .c) => .subC
  | .alu .sub (.reg .d) => .subD
  | .alu .sub (.reg .e) => .subE
  | .alu .sub (.reg .h) => .subH
  | .alu .sub (.reg .l) => .subL
  | .alu .sub .m => .subM
  | .alu .sub (.reg .a) => .subA
  | .alu .sbb (.reg .b) => .sbbB
  | .alu .sbb (.reg .c) => .sbbC
  | .alu .sbb (.reg .d) => .sbbD
  | .alu .sbb (.reg .e) => .sbbE
  | .alu .sbb (.reg .h) => .sbbH
  | .alu .sbb (.reg .l) => .sbbL
  | .alu .sbb .m => .sbbM
  | .alu .sbb (.reg .a) => .sbbA
  | .alu .ana (.reg .b) => .anaB
  | .alu .ana (.reg .c) => .anaC
  | .alu .ana (.reg .d) => .anaD
  | .alu .ana (.reg .e) => .anaE
  | .alu .ana (.reg .h) => .anaH
  | .alu .ana (.reg .l) => .anaL
  | .alu .ana .m => .anaM
  | .alu .ana (.reg .a) => .anaA
  | .alu .xra (.reg .b) => .xraB
  | .alu .xra (.reg .c) => .xraC
  | .alu .xra (.reg .d) => .xraD
  | .alu .xra (.reg .e) => .xraE
  | .alu .xra (.reg .h) => .xraH
  | .alu .xra (.reg .l) => .xraL
  | .alu .xra .m => .xraM
  | .alu .xra (.reg .a) => .xraA
  | .alu .ora (.reg .b) => .oraB
  | .alu .ora (.reg .c) => .oraC
  | .alu .ora (.reg .d) => .oraD
  | .alu .ora (.reg .e) => .oraE
  | .alu .ora (.reg .h) => .oraH
  | .alu .ora (.reg .l) => .oraL
  | .alu .ora .m => .oraM
  | .alu .ora (.reg .a) => .oraA
  | .alu .cmp (.reg .b) => .cmpB
  | .alu .cmp (.reg .c) => .cmpC
  | .alu .cmp (.reg .d) => .cmpD
  | .alu .cmp (.reg .e) => .cmpE
  | .alu .cmp (.reg .h) => .cmpH
  | .alu .cmp (.reg .l) => .cmpL
  | .alu .cmp .m => .cmpM
  | .alu .cmp (.reg .a) => .cmpA
  | .rcc .nz => .rnz
  | .pop .bc => .popB
  | .jcc .nz a16 => .jnz a16
  | .jmp a16 => .jmp a16
  | .ccc .nz a16 => .cnz a16
  | .push .bc => .pushB
  | .aluImm .add d8 => .adi d8
  | .rst 0 => .rst0
  | .rcc .z => .rz
  | .ret => .ret
  | .jcc .z a16 => .jz a16
  | .undocJmp a16 => .undocCB a16
  | .ccc .z a16 => .cz a16
  | .call a16 => .call a16
  | .aluImm .adc d8 => .aci d8
  | .rst 1 => .rst1
  | .rcc .nc => .rnc
  | .pop .de => .popD
  | .jcc .nc a16 => .jnc a16
  | .outp d8 => .outp d8
  | .ccc .nc a16 => .cnc a16
  | .push .de => .pushD
  | .aluImm .sub d8 => .sui d8
  | .rst 2 => .rst2
  | .rcc .c => .rc
  | .undocRet => .undocD9
  | .jcc .c a16 => .jc a16
  | .inp d8 => .inp d8
  | .ccc .c a16 => .cc a16
  | .undocCall .dd a16 => .undocDD a16
  | .aluImm .sbb d8 => .sbi d8
  | .rst 3 => .rst3
  | .rcc .po => .rpo
  | .pop .hl => .popH
  | .jcc .po a16 => .jpo a16
  | .xthl => .xthl
  | .ccc .po a16 => .cpo a16
  | .push .hl => .pushH
  | .aluImm .ana d8 => .ani d8
  | .rst 4 => .rst4
  | .rcc .pe => .rpe
  | .pchl => .pchl
  | .jcc .pe a16 => .jpe a16
  | .xchg => .xchg
  | .ccc .pe a16 => .cpe a16
  | .undocCall .ed a16 => .undocED a16
  | .aluImm .xra d8 => .xri d8
  | .rst 5 => .rst5
  | .rcc .p => .rp
  | .pop .psw => .popPsw
  | .jcc .p a16 => .jp a16
  | .di => .di
  | .ccc .p a16 => .cp a16
  | .push .psw => .pushPsw
  | .aluImm .ora d8 => .ori d8
  | .rst 6 => .rst6
  | .rcc .m => .rm
  | .sphl => .sphl
  | .jcc .m a16 => .jm a16
  | .ei => .ei
  | .ccc .m a16 => .cm a16
  | .undocCall .fd a16 => .undocFD a16
  | .aluImm .cmp d8 => .cpi d8
  | .rst 7 => .rst7

end Sys2Proof
end

