-- ==== Sys2Proof/WellFormed.lean ====
section
/-! DEFINITION. When an `Instr` is an instruction of the machine at hand. Every operand's range is its type's (R7), so the one
thing left to check is what R161 makes of the five undocumented bytes: 0xCB, 0xDD, 0xED and 0xFD carry an address under
`UNDOC_ALIAS = chip` and none under `nop` (assumption 13). -/

namespace Sys2Proof

/-- An address is there exactly under `chip` (R161). -/
def UndocAlias.admits (u : UndocAlias) (a16 : Option Word) : Bool :=
  match u with
  | .nop => a16.isNone
  | .chip => a16.isSome

/-- Whether a form is one of a machine whose `UNDOC_ALIAS` is `u`. -/
def Form.wellFormed (u : UndocAlias) (f : Form) : Bool :=
  match f with
  | .undocJmp a16 | .undocCall _ a16 => u.admits a16
  | .nop | .nopAlias _ | .movRR _ _ | .movRM _ | .movMR _ | .mviR _ _ | .mviM _ | .lxi _ _ | .lda _ | .sta _
  | .lhld _ | .shld _ | .ldax _ | .stax _ | .xchg | .alu _ _ | .aluImm _ _ | .inr _ | .dcr _ | .inx _
  | .dcx _ | .dad _ | .daa | .rlc | .rrc | .ral | .rar | .cma | .cmc | .stc | .jmp _ | .jcc _ _ | .call _
  | .ccc _ _ | .ret | .rcc _ | .rst _ | .pchl | .push _ | .pop _ | .xthl | .sphl | .inp _ | .outp _ | .ei
  | .di | .hlt | .undocRet => true

/-- `i` is an instruction of a machine whose `UNDOC_ALIAS` is `u`. -/
def Instr.wellFormed (u : UndocAlias) (i : Instr) : Bool := i.form.wellFormed u

end Sys2Proof
end

