-- ==== Sys2Proof/Decode.lean ====
section
/-! DEFINITION. The decoder of 30_encoding.md: the opcode map (R55), the length of an instruction (R56), its cost (R57) and
the operand bytes (R49, R54); after them the encoder. Decoding is total and no opcode is illegal (R59); a list of bytes is
refused, by name, only where it ends before the instruction does. -/

namespace Sys2Proof

/-! ## Byte order -/

/-- `cat(h, l)` of R9: h is bits 15:8. -/
def cat (h l : Byte) : Word := h ++ l

/-- `v[7:0]` of R9. -/
def loByte (v : Word) : Byte := v.extractLsb' 0 8

/-- `v[15:8]` of R9. -/
def hiByte (v : Word) : Byte := v.extractLsb' 8 8

/-! ## The opcode map -/

/-- A conditional cost of R57: the first figure under `taken`, the second under `not_taken`. -/
def CondCycles.pick (k : CondCycles) (taken notTaken : Nat) : Nat :=
  match k with
  | .taken => taken
  | .notTaken => notTaken

/-- What R161 makes of an undocumented byte: the first under `nop`, the second under `chip`. -/
def UndocAlias.pick {α : Type} (u : UndocAlias) (nop chip : α) : α :=
  match u with
  | .nop => nop
  | .chip => chip

/-- The rows of R55's table, by the high digit of the opcode: sixteen cells each, with the operand a cell takes filled in. -/
def opcodeRow (u : UndocAlias) (d8 : Byte) (d16 : Word) (hi : Nat) : List Instr :=
  match hi with
  | 0x0 => [.nop, .lxiB d16, .staxB, .inxB, .inrB, .dcrB, .mviB d8, .rlc,
      .nop08, .dadB, .ldaxB, .dcxB, .inrC, .dcrC, .mviC d8, .rrc]
  | 0x1 => [.nop10, .lxiD d16, .staxD, .inxD, .inrD, .dcrD, .mviD d8, .ral,
      .nop18, .dadD, .ldaxD, .dcxD, .inrE, .dcrE, .mviE d8, .rar]
  | 0x2 => [.nop20, .lxiH d16, .shld d16, .inxH, .inrH, .dcrH, .mviH d8, .daa,
      .nop28, .dadH, .lhld d16, .dcxH, .inrL, .dcrL, .mviL d8, .cma]
  | 0x3 => [.nop30, .lxiSp d16, .sta d16, .inxSp, .inrM, .dcrM, .mviM d8, .stc,
      .nop38, .dadSp, .lda d16, .dcxSp, .inrA, .dcrA, .mviA d8, .cmc]
  | 0x4 => [.movBB, .movBC, .movBD, .movBE, .movBH, .movBL, .movBM, .movBA,
      .movCB, .movCC, .movCD, .movCE, .movCH, .movCL, .movCM, .movCA]
  | 0x5 => [.movDB, .movDC, .movDD, .movDE, .movDH, .movDL, .movDM, .movDA,
      .movEB, .movEC, .movED, .movEE, .movEH, .movEL, .movEM, .movEA]
  | 0x6 => [.movHB, .movHC, .movHD, .movHE, .movHH, .movHL, .movHM, .movHA,
      .movLB, .movLC, .movLD, .movLE, .movLH, .movLL, .movLM, .movLA]
  | 0x7 => [.movMB, .movMC, .movMD, .movME, .movMH, .movML, .hlt, .movMA,
      .movAB, .movAC, .movAD, .movAE, .movAH, .movAL, .movAM, .movAA]
  | 0x8 => [.addB, .addC, .addD, .addE, .addH, .addL, .addM, .addA,
      .adcB, .adcC, .adcD, .adcE, .adcH, .adcL, .adcM, .adcA]
  | 0x9 => [.subB, .subC, .subD, .subE, .subH, .subL, .subM, .subA,
      .sbbB, .sbbC, .sbbD, .sbbE, .sbbH, .sbbL, .sbbM, .sbbA]
  | 0xA => [.anaB, .anaC, .anaD, .anaE, .anaH, .anaL, .anaM, .anaA,
      .xraB, .xraC, .xraD, .xraE, .xraH, .xraL, .xraM, .xraA]
  | 0xB => [.oraB, .oraC, .oraD, .oraE, .oraH, .oraL, .oraM, .oraA,
      .cmpB, .cmpC, .cmpD, .cmpE, .cmpH, .cmpL, .cmpM, .cmpA]
  | 0xC => [.rnz, .popB, .jnz d16, .jmp d16, .cnz d16, .pushB, .adi d8, .rst0,
      .rz, .ret, .jz d16, .undocCB (u.pick none (some d16)), .cz d16, .call d16, .aci d8, .rst1]
  | 0xD => [.rnc, .popD, .jnc d16, .outp d8, .cnc d16, .pushD, .sui d8, .rst2,
      .rc, .undocD9, .jc d16, .inp d8, .cc d16, .undocDD (u.pick none (some d16)), .sbi d8, .rst3]
  | 0xE => [.rpo, .popH, .jpo d16, .xthl, .cpo d16, .pushH, .ani d8, .rst4,
      .rpe, .pchl, .jpe d16, .xchg, .cpe d16, .undocED (u.pick none (some d16)), .xri d8, .rst5]
  | 0xF => [.rp, .popPsw, .jp d16, .di, .cp d16, .pushPsw, .ori d8, .rst6,
      .rm, .sphl, .jm d16, .ei, .cm d16, .undocFD (u.pick none (some d16)), .cpi d8, .rst7]
  | _ => []

/-- The identity of an opcode byte (R55), with the operand bytes read after it. Every byte has one (R59); the last resort NOP
of `getD` is never reached, since every row has its sixteen cells. -/
def opcodeMap (u : UndocAlias) (d8 : Byte) (d16 : Word) (op : Byte) : Instr :=
  (opcodeRow u d8 d16 (op.toNat / 16)).getD (op.toNat % 16) .nop

/-- The length of the instruction an opcode byte begins (R56), from the byte alone (R60). -/
def opcodeLength (u : UndocAlias) (op : Byte) : Nat :=
  if [0x01, 0x11, 0x21, 0x31, 0x22, 0x2A, 0x32, 0x3A, 0xC3, 0xCD].contains op
      || op &&& 0xC7 == 0xC2      -- 11 ccc 010
      || op &&& 0xC7 == 0xC4      -- 11 ccc 100
      || u.pick false ([0xCB, 0xDD, 0xED, 0xFD].contains op) then 3
  else if op &&& 0xC7 == 0x06     -- 00 ddd 110
      || op &&& 0xC7 == 0xC6      -- 11 ooo 110
      || [0xD3, 0xDB].contains op then 2
  else 1

/-- The costs of R55's table (R57), by the high digit of the opcode. -/
def cyclesRow (p : Params) (hi : Nat) : List Nat :=
  let rcc := p.condCycles.pick 11 5
  let ccc := p.condCycles.pick 17 11
  match hi with
  | 0x0 => [4, 10, 7, 5, 5, 5, 7, 4, 4, 10, 7, 5, 5, 5, 7, 4]
  | 0x1 => [4, 10, 7, 5, 5, 5, 7, 4, 4, 10, 7, 5, 5, 5, 7, 4]
  | 0x2 => [4, 10, 16, 5, 5, 5, 7, 4, 4, 10, 16, 5, 5, 5, 7, 4]
  | 0x3 => [4, 10, 13, 5, 10, 10, 10, 4, 4, 10, 13, 5, 5, 5, 7, 4]
  | 0x4 => [5, 5, 5, 5, 5, 5, 7, 5, 5, 5, 5, 5, 5, 5, 7, 5]
  | 0x5 => [5, 5, 5, 5, 5, 5, 7, 5, 5, 5, 5, 5, 5, 5, 7, 5]
  | 0x6 => [5, 5, 5, 5, 5, 5, 7, 5, 5, 5, 5, 5, 5, 5, 7, 5]
  | 0x7 => [7, 7, 7, 7, 7, 7, 7, 7, 5, 5, 5, 5, 5, 5, 7, 5]
  | 0x8 => [4, 4, 4, 4, 4, 4, 7, 4, 4, 4, 4, 4, 4, 4, 7, 4]
  | 0x9 => [4, 4, 4, 4, 4, 4, 7, 4, 4, 4, 4, 4, 4, 4, 7, 4]
  | 0xA => [4, 4, 4, 4, 4, 4, 7, 4, 4, 4, 4, 4, 4, 4, 7, 4]
  | 0xB => [4, 4, 4, 4, 4, 4, 7, 4, 4, 4, 4, 4, 4, 4, 7, 4]
  | 0xC => [rcc, 10, 10, 10, ccc, 11, 7, 11, rcc, 10, 10, p.undocAlias.pick 4 10, ccc, 17, 7, 11]
  | 0xD => [rcc, 10, 10, 10, ccc, 11, 7, 11, rcc, p.undocAlias.pick 4 10, 10, 10, ccc, p.undocAlias.pick 4 17, 7, 11]
  | 0xE => [rcc, 10, 10, 18, ccc, 11, 7, 11, rcc, 5, 10, 4, ccc, p.undocAlias.pick 4 17, 7, 11]
  | 0xF => [rcc, 10, 10, 4, ccc, 11, 7, 11, rcc, 5, 10, 4, ccc, p.undocAlias.pick 4 17, 7, 11]
  | _ => []

/-- The cost an opcode byte has (R57): of the byte and the parameters only, never of whether a condition held. -/
def opcodeCycles (p : Params) (op : Byte) : Nat :=
  (cyclesRow p (op.toNat / 16)).getD (op.toNat % 16) 0

/-! ## Decoding a list of bytes -/

/-- Why a list of bytes is no instruction: it ends too early. The step never meets either case, since it reads its bytes from
the whole address space with wrap (R34, R36; assumption 14). -/
inductive DecodeError
  | noOpcode                 -- the list is empty
  | truncated (op : Byte)    -- the operand bytes of `op` are not all there
  deriving DecidableEq, Repr

/-- What the decoder answers: an instruction and the bytes after it, or a refusal by name. -/
inductive Decoded
  | instr (i : Instr) (rest : List Byte)
  | refused (e : DecodeError)
  deriving DecidableEq, Repr

/-- The first instruction in a list of bytes and what follows it. A 16-bit operand has its low byte first (R49, R54). -/
def decode (u : UndocAlias) (bytes : List Byte) : Decoded :=
  match bytes with
  | [] => .refused .noOpcode
  | op :: rest =>
    match opcodeLength u op, rest with
    | 3, lo :: hi :: rest' => .instr (opcodeMap u 0 (cat hi lo) op) rest'
    | 2, d8 :: rest' => .instr (opcodeMap u d8 0 op) rest'
    | 1, rest' => .instr (opcodeMap u 0 0 op) rest'
    | _, _ => .refused (.truncated op)

/-! ## Encoding -/

/-- The opcode byte of an instruction (R55). -/
def Instr.opcode (i : Instr) : Byte :=
  match i with
  | .nop => 0x00
  | .lxiB _ => 0x01
  | .staxB => 0x02
  | .inxB => 0x03
  | .inrB => 0x04
  | .dcrB => 0x05
  | .mviB _ => 0x06
  | .rlc => 0x07
  | .nop08 => 0x08
  | .dadB => 0x09
  | .ldaxB => 0x0A
  | .dcxB => 0x0B
  | .inrC => 0x0C
  | .dcrC => 0x0D
  | .mviC _ => 0x0E
  | .rrc => 0x0F
  | .nop10 => 0x10
  | .lxiD _ => 0x11
  | .staxD => 0x12
  | .inxD => 0x13
  | .inrD => 0x14
  | .dcrD => 0x15
  | .mviD _ => 0x16
  | .ral => 0x17
  | .nop18 => 0x18
  | .dadD => 0x19
  | .ldaxD => 0x1A
  | .dcxD => 0x1B
  | .inrE => 0x1C
  | .dcrE => 0x1D
  | .mviE _ => 0x1E
  | .rar => 0x1F
  | .nop20 => 0x20
  | .lxiH _ => 0x21
  | .shld _ => 0x22
  | .inxH => 0x23
  | .inrH => 0x24
  | .dcrH => 0x25
  | .mviH _ => 0x26
  | .daa => 0x27
  | .nop28 => 0x28
  | .dadH => 0x29
  | .lhld _ => 0x2A
  | .dcxH => 0x2B
  | .inrL => 0x2C
  | .dcrL => 0x2D
  | .mviL _ => 0x2E
  | .cma => 0x2F
  | .nop30 => 0x30
  | .lxiSp _ => 0x31
  | .sta _ => 0x32
  | .inxSp => 0x33
  | .inrM => 0x34
  | .dcrM => 0x35
  | .mviM _ => 0x36
  | .stc => 0x37
  | .nop38 => 0x38
  | .dadSp => 0x39
  | .lda _ => 0x3A
  | .dcxSp => 0x3B
  | .inrA => 0x3C
  | .dcrA => 0x3D
  | .mviA _ => 0x3E
  | .cmc => 0x3F
  | .movBB => 0x40
  | .movBC => 0x41
  | .movBD => 0x42
  | .movBE => 0x43
  | .movBH => 0x44
  | .movBL => 0x45
  | .movBM => 0x46
  | .movBA => 0x47
  | .movCB => 0x48
  | .movCC => 0x49
  | .movCD => 0x4A
  | .movCE => 0x4B
  | .movCH => 0x4C
  | .movCL => 0x4D
  | .movCM => 0x4E
  | .movCA => 0x4F
  | .movDB => 0x50
  | .movDC => 0x51
  | .movDD => 0x52
  | .movDE => 0x53
  | .movDH => 0x54
  | .movDL => 0x55
  | .movDM => 0x56
  | .movDA => 0x57
  | .movEB => 0x58
  | .movEC => 0x59
  | .movED => 0x5A
  | .movEE => 0x5B
  | .movEH => 0x5C
  | .movEL => 0x5D
  | .movEM => 0x5E
  | .movEA => 0x5F
  | .movHB => 0x60
  | .movHC => 0x61
  | .movHD => 0x62
  | .movHE => 0x63
  | .movHH => 0x64
  | .movHL => 0x65
  | .movHM => 0x66
  | .movHA => 0x67
  | .movLB => 0x68
  | .movLC => 0x69
  | .movLD => 0x6A
  | .movLE => 0x6B
  | .movLH => 0x6C
  | .movLL => 0x6D
  | .movLM => 0x6E
  | .movLA => 0x6F
  | .movMB => 0x70
  | .movMC => 0x71
  | .movMD => 0x72
  | .movME => 0x73
  | .movMH => 0x74
  | .movML => 0x75
  | .hlt => 0x76
  | .movMA => 0x77
  | .movAB => 0x78
  | .movAC => 0x79
  | .movAD => 0x7A
  | .movAE => 0x7B
  | .movAH => 0x7C
  | .movAL => 0x7D
  | .movAM => 0x7E
  | .movAA => 0x7F
  | .addB => 0x80
  | .addC => 0x81
  | .addD => 0x82
  | .addE => 0x83
  | .addH => 0x84
  | .addL => 0x85
  | .addM => 0x86
  | .addA => 0x87
  | .adcB => 0x88
  | .adcC => 0x89
  | .adcD => 0x8A
  | .adcE => 0x8B
  | .adcH => 0x8C
  | .adcL => 0x8D
  | .adcM => 0x8E
  | .adcA => 0x8F
  | .subB => 0x90
  | .subC => 0x91
  | .subD => 0x92
  | .subE => 0x93
  | .subH => 0x94
  | .subL => 0x95
  | .subM => 0x96
  | .subA => 0x97
  | .sbbB => 0x98
  | .sbbC => 0x99
  | .sbbD => 0x9A
  | .sbbE => 0x9B
  | .sbbH => 0x9C
  | .sbbL => 0x9D
  | .sbbM => 0x9E
  | .sbbA => 0x9F
  | .anaB => 0xA0
  | .anaC => 0xA1
  | .anaD => 0xA2
  | .anaE => 0xA3
  | .anaH => 0xA4
  | .anaL => 0xA5
  | .anaM => 0xA6
  | .anaA => 0xA7
  | .xraB => 0xA8
  | .xraC => 0xA9
  | .xraD => 0xAA
  | .xraE => 0xAB
  | .xraH => 0xAC
  | .xraL => 0xAD
  | .xraM => 0xAE
  | .xraA => 0xAF
  | .oraB => 0xB0
  | .oraC => 0xB1
  | .oraD => 0xB2
  | .oraE => 0xB3
  | .oraH => 0xB4
  | .oraL => 0xB5
  | .oraM => 0xB6
  | .oraA => 0xB7
  | .cmpB => 0xB8
  | .cmpC => 0xB9
  | .cmpD => 0xBA
  | .cmpE => 0xBB
  | .cmpH => 0xBC
  | .cmpL => 0xBD
  | .cmpM => 0xBE
  | .cmpA => 0xBF
  | .rnz => 0xC0
  | .popB => 0xC1
  | .jnz _ => 0xC2
  | .jmp _ => 0xC3
  | .cnz _ => 0xC4
  | .pushB => 0xC5
  | .adi _ => 0xC6
  | .rst0 => 0xC7
  | .rz => 0xC8
  | .ret => 0xC9
  | .jz _ => 0xCA
  | .undocCB _ => 0xCB
  | .cz _ => 0xCC
  | .call _ => 0xCD
  | .aci _ => 0xCE
  | .rst1 => 0xCF
  | .rnc => 0xD0
  | .popD => 0xD1
  | .jnc _ => 0xD2
  | .outp _ => 0xD3
  | .cnc _ => 0xD4
  | .pushD => 0xD5
  | .sui _ => 0xD6
  | .rst2 => 0xD7
  | .rc => 0xD8
  | .undocD9 => 0xD9
  | .jc _ => 0xDA
  | .inp _ => 0xDB
  | .cc _ => 0xDC
  | .undocDD _ => 0xDD
  | .sbi _ => 0xDE
  | .rst3 => 0xDF
  | .rpo => 0xE0
  | .popH => 0xE1
  | .jpo _ => 0xE2
  | .xthl => 0xE3
  | .cpo _ => 0xE4
  | .pushH => 0xE5
  | .ani _ => 0xE6
  | .rst4 => 0xE7
  | .rpe => 0xE8
  | .pchl => 0xE9
  | .jpe _ => 0xEA
  | .xchg => 0xEB
  | .cpe _ => 0xEC
  | .undocED _ => 0xED
  | .xri _ => 0xEE
  | .rst5 => 0xEF
  | .rp => 0xF0
  | .popPsw => 0xF1
  | .jp _ => 0xF2
  | .di => 0xF3
  | .cp _ => 0xF4
  | .pushPsw => 0xF5
  | .ori _ => 0xF6
  | .rst6 => 0xF7
  | .rm => 0xF8
  | .sphl => 0xF9
  | .jm _ => 0xFA
  | .ei => 0xFB
  | .cm _ => 0xFC
  | .undocFD _ => 0xFD
  | .cpi _ => 0xFE
  | .rst7 => 0xFF

/-- A 16-bit operand as it stands after its opcode: low byte first (R49). -/
def wordBytes (v : Word) : List Byte := [loByte v, hiByte v]

/-- The operand bytes of a form, low byte first (R49, R54). -/
def Form.operandBytes (f : Form) : List Byte :=
  match f with
  | .mviR _ d8 | .mviM d8 | .aluImm _ d8 | .inp d8 | .outp d8 => [d8]
  | .lxi _ v | .lda v | .sta v | .lhld v | .shld v | .jmp v | .jcc _ v | .call v | .ccc _ v => wordBytes v
  | .undocJmp a16 | .undocCall _ a16 => (a16.map wordBytes).getD []
  | .nop | .nopAlias _ | .movRR _ _ | .movRM _ | .movMR _ | .ldax _ | .stax _ | .xchg | .alu _ _ | .inr _
  | .dcr _ | .inx _ | .dcx _ | .dad _ | .daa | .rlc | .rrc | .ral | .rar | .cma | .cmc | .stc | .ret | .rcc _
  | .rst _ | .pchl | .push _ | .pop _ | .xthl | .sphl | .ei | .di | .hlt | .undocRet => []

/-- The operand bytes of an instruction. -/
def Instr.operandBytes (i : Instr) : List Byte := i.form.operandBytes

/-- The bytes of an instruction, in address order. -/
def encode (i : Instr) : List Byte := i.opcode :: i.operandBytes

/-- How far the step moves pc before it executes the instruction (R18, R58). -/
def Instr.length (i : Instr) : Nat := (encode i).length

/-- What the step writes to `last_cycles` (R57, R58). -/
def Instr.cycles (p : Params) (i : Instr) : Nat := opcodeCycles p i.opcode

/-! ## The table's words -/

/-- Byte `k` of an instruction given as one number, byte 0 in its least significant bits; the bits from `nbits` up are 0. -/
def tableByte (nbits w k : Nat) : Byte := BitVec.ofNat 8 ((w % 2 ^ nbits) / 2 ^ (8 * k))

/-- The bytes of such a number, as many as the longest instruction has, lowest address first. -/
def tableBytes (nbits w : Nat) : List Byte := [tableByte nbits w 0, tableByte nbits w 1, tableByte nbits w 2]

/-- The instruction the decoder reads from a word of spec/opcode_table.json, on a machine of the default setting
(assumption 9). -/
def decodeTableWord (nbits w : Nat) : Option Instr :=
  match decode Params.default.undocAlias (tableBytes nbits w) with
  | .instr i _ => some i
  | .refused _ => none

end Sys2Proof
end

