-- ==== Sys2Proof/Machine/State.lean ====
section
/-! DEFINITION. The state of the core (R32), the ways it can decline to move, and its state at construction, which is this
hardware's reset (R178). -/

namespace Sys2Proof.Machine

/-- The seven registers of R13. The pairs BC, DE and HL are views of them (R15), not storage. -/
structure Regs where
  a : Byte
  b : Byte
  c : Byte
  d : Byte
  e : Byte
  h : Byte
  l : Byte
  deriving DecidableEq, Repr

/-- The five condition flags of R19. The flag byte F is a view of them (R20), so its padding bits cannot be set. -/
structure Flags where
  s : Bool
  z : Bool
  ac : Bool
  p : Bool
  cy : Bool
  deriving DecidableEq, Repr

/-- One completed I/O transaction (R153, R154). -/
inductive IoEvent
  | read (port value : Byte)
  | write (port value : Byte)
  deriving DecidableEq, Repr

/-- The whole state. `regs` to `mem` are the record of R32. `cfg` holds the parameters of R8, which no transition writes.
The last three are the model's own: whether the host gives the coming step an I/O handler (R182), the log of the I/O
transactions (R154), and the number of steps taken, which makes each free value a fresh one (assumptions 2, 4, 5, 6). -/
structure State where
  /-- A, B, C, D, E, H, L: R13. -/
  regs : Regs
  /-- The address of the next opcode byte: R17. -/
  pc : Word
  /-- The address of the most recently pushed byte: R23. -/
  sp : Word
  /-- S, Z, AC, P, CY: R19. -/
  flags : Flags
  /-- The interrupt-enable flag: R24. -/
  ie : Bool
  /-- The cost of the last step: R25. -/
  lastCycles : Nat
  /-- Set by HLT, cleared by nothing; after a step it is that step's halt signal: R26, R157. -/
  halted : Bool
  /-- The bytes that are not 0x00, by rising address: R27. -/
  mem : List Host.Cell
  /-- `UNDOC_ALIAS` and `COND_CYCLES`: R8. -/
  cfg : Params
  /-- Whether the coming step has a handler: R8 `IO`. -/
  ioPresent : Bool
  /-- The I/O transactions so far, oldest first: R153, R154. -/
  ioLog : List IoEvent
  /-- The number of steps taken. -/
  draws : Nat
  deriving DecidableEq, Repr

/-- The faults of the machine: there are none. R162: the core raises no exception, and spec/93_implementation_defined.md
treats no behaviour as a fault. The type is empty, so no transition can answer a fault. -/
inductive Fault
  deriving DecidableEq, Repr

/-- Why an operation of the host has no transition. Every one is the spec's `refuse` (spec/93_implementation_defined.md) and
safe: nothing can be proved of a host that does such a thing. No instruction refuses. -/
inductive Refusal
  /-- Raised by `exec` for an instruction without a meaning; there is none. Safe. -/
  | notModelled (mnemonic : String)
  /-- Raised by `step` while `halted` is set (R158). Safe. -/
  | stepWhileHalted
  /-- Raised by `raiseInterrupt` while `halted` is set (R167 b). Safe. -/
  | interruptWhileHalted
  /-- Raised by `raiseInterrupt` while IE is 0 (R165). Safe. -/
  | interruptWhileDisabled
  /-- Raised by `raiseInterrupt` for a vector above 7 (R167 a). Safe. -/
  | vectorOutOfRange
  /-- Raised by `load` while `halted` is set (R181; assumption 8). Safe. -/
  | loadWhileHalted
  /-- Raised by `load` for a buffer that runs past 0xFFFF (R46). Safe. -/
  | loadPastEnd
  deriving DecidableEq, Repr

/-- What a transition answers. -/
abbrev Answer := Host.Outcome State Fault Refusal

/-- The parameter `INIT` of R8: the values at construction that the source does not give. -/
structure Init where
  regs : Regs
  sp : Word
  flags : Flags
  ie : Bool
  lastCycles : Nat
  deriving DecidableEq, Repr

/-- The state at construction (R178) for a given `INIT`, of a machine with given parameters, whose host does or does not
give the first step a handler. -/
def State.construct (init : Init) (cfg : Params) (ioPresent : Bool) : State :=
  { regs := init.regs
    pc := 0x0000
    sp := init.sp
    flags := init.flags
    ie := init.ie
    lastCycles := init.lastCycles
    halted := false
    mem := []
    cfg := cfg
    ioPresent := ioPresent
    ioLog := []
    draws := 0 }

/-- The `INIT` of `State.reset`. DESIGN CHOICE (assumption 1), unsafe: the spec gives none of these values. -/
def Init.zero : Init :=
  { regs := { a := 0, b := 0, c := 0, d := 0, e := 0, h := 0, l := 0 }
    sp := 0
    flags := { s := false, z := false, ac := false, p := false, cy := false }
    ie := false
    lastCycles := 0 }

/-- The machine right after reset: R178 with the values of assumptions 1, 3 and 4 where the spec leaves them open. -/
def State.reset : State := State.construct Init.zero Params.default false

end Sys2Proof.Machine
end

