-- ==== Sys2Proof/Machine/Flags.lean ====
section
/-! DEFINITION. The condition-flag ALU: the flag byte (R20, R21), the flags of a result (R77), the 8-bit additions and
subtractions (R78, R79), the logical operations (R94), decimal adjust (R93) and the rotates (R103 to R106). Sums and
differences are taken exactly and narrowed at the end. -/

namespace Sys2Proof.Machine

/-! ## The flag byte -/

/-- F: `S Z 0 AC 0 P 1 CY` from bit 7 to bit 0 (R20). -/
def Flags.toByte (f : Flags) : Byte :=
  BitVec.ofBool f.s ++ BitVec.ofBool f.z ++ 0#1 ++ BitVec.ofBool f.ac ++ 0#1 ++ BitVec.ofBool f.p ++ 1#1
    ++ BitVec.ofBool f.cy

/-- The flags a byte writes: bits 7, 6, 4, 2 and 0 count, the padding bits do not (R21). -/
def Flags.ofByte (v : Byte) : Flags :=
  { s := v.getLsbD 7, z := v.getLsbD 6, ac := v.getLsbD 4, p := v.getLsbD 2, cy := v.getLsbD 0 }

/-! ## The flags of a result -/

/-- The number of 1 bits (R9). -/
def popcount (r : Byte) : Nat := (List.range 8).countP (fun k => r.getLsbD k)

/-- An 8-bit result with its carry and auxiliary carry. -/
structure AluOut where
  r : Byte
  cy : Bool
  ac : Bool
  deriving DecidableEq, Repr

/-- `SZP(r)` (R77) over the flags `f`: AC and CY stay. -/
def Flags.szp (f : Flags) (r : Byte) : Flags :=
  { f with z := r == 0, s := r.getLsbD 7, p := popcount r % 2 == 0 }

/-- All five flags of an ALU result. -/
def AluOut.flags (o : AluOut) : Flags :=
  Flags.szp { s := false, z := false, ac := o.ac, p := false, cy := o.cy } o.r

/-- The flags of INR and DCR: all but CY from the result (R88, R89). -/
def AluOut.flagsKeepCarry (o : AluOut) (old : Flags) : Flags := { o.flags with cy := old.cy }

/-! ## Addition and subtraction -/

/-- `a & 0x0F` as a number. -/
def lowNibble (a : Byte) : Nat := (a &&& 0x0F).toNat

/-- `add8(a, b, cin)` (R78). -/
def add8 (a b : Byte) (cin : Bool) : AluOut :=
  let t := a.toNat + b.toNat + cin.toNat
  { r := BitVec.ofNat 8 t
    cy := decide (t > 0xFF)
    ac := decide (lowNibble a + lowNibble b + cin.toNat > 0x0F) }

/-- `sub8(a, b, bin)` (R79): CY is the borrow, AC the carry out of bit 3 of `a + ~b + (1 - bin)`. -/
def sub8 (a b : Byte) (bin : Bool) : AluOut :=
  { r := BitVec.ofInt 8 ((a.toNat : Int) - (b.toNat : Int) - (bin.toNat : Int))
    cy := decide (a.toNat < b.toNat + bin.toNat)
    ac := decide (lowNibble a + lowNibble (~~~b) + (1 - bin.toNat) > 0x0F) }

/-! ## Logic -/

/-- `and8(a, b)` (R94): AC is bit 3 of the OR of the operands. -/
def and8 (a b : Byte) : AluOut := { r := a &&& b, cy := false, ac := (a ||| b) &&& 0x08 != 0 }

/-- `xor8(a, b)` (R94). -/
def xor8 (a b : Byte) : AluOut := { r := a ^^^ b, cy := false, ac := false }

/-- `or8(a, b)` (R94). -/
def or8 (a b : Byte) : AluOut := { r := a ||| b, cy := false, ac := false }

/-- The eight operations of R53 on the accumulator `a`, the operand `b` and the incoming carry. -/
def aluCompute (op : AluOp) (a b : Byte) (cy : Bool) : AluOut :=
  match op with
  | .add => add8 a b false
  | .adc => add8 a b cy
  | .sub => sub8 a b false
  | .sbb => sub8 a b cy
  | .ana => and8 a b
  | .xra => xor8 a b
  | .ora => or8 a b
  | .cmp => sub8 a b false

/-- Whether an operation writes A: all but CMP do (R98, R102). -/
def aluWritesA (op : AluOp) : Bool := op != .cmp

/-! ## Decimal adjust -/

/-- DAA (R93): +6 for the low digit, then +0x60 for the high one, tested on the untruncated stage-1 sum. -/
def daa8 (a : Byte) (ac cy : Bool) : AluOut :=
  let lo := decide (lowNibble a > 9) || ac
  let t := a.toNat + (if lo then 0x06 else 0)
  let hi := decide (t >>> 4 > 9) || cy
  { r := BitVec.ofNat 8 (t + (if hi then 0x60 else 0))
    cy := hi
    ac := lo && decide (lowNibble a + 0x06 > 0x0F) }

/-! ## Rotates: the rotated byte and the new carry -/

/-- A bit as a byte. -/
def bitByte (b : Bool) : Byte := (BitVec.ofBool b).setWidth 8

/-- R103. -/
def rlc8 (a : Byte) : Byte × Bool := ((a <<< 1) ||| bitByte (a.getLsbD 7), a.getLsbD 7)

/-- R104. -/
def rrc8 (a : Byte) : Byte × Bool := ((a >>> 1) ||| (bitByte (a.getLsbD 0) <<< 7), a.getLsbD 0)

/-- R105. -/
def ral8 (a : Byte) (cy : Bool) : Byte × Bool := ((a <<< 1) ||| bitByte cy, a.getLsbD 7)

/-- R106. -/
def rar8 (a : Byte) (cy : Bool) : Byte × Bool := ((a >>> 1) ||| (bitByte cy <<< 7), a.getLsbD 0)

end Sys2Proof.Machine
end

