-- ==== Sys2Proof/Machine/Ops.lean ====
section
/-! DEFINITION. The named operations over memory, registers, the stack and the I/O ports, and interrupt entry. -/

namespace Sys2Proof.Machine

/-! ## The memory array (R27, R33 to R35)

A list of (address, byte) pairs, the addresses below 65536 and strictly rising, without the bytes that are 0x00: an unlisted
address reads as 0x00, what R27 gives every byte at construction (assumption 10). -/

/-- The byte at an address. -/
def memGet (m : List Host.Cell) (a : Nat) : Byte :=
  match m with
  | [] => 0x00
  | (k, v) :: m' => if k = a then v else memGet m' a

/-- The list without what it holds at `a`. -/
def memErase (m : List Host.Cell) (a : Nat) : List Host.Cell :=
  match m with
  | [] => []
  | (k, v) :: m' => if k = a then memErase m' a else (k, v) :: memErase m' a

/-- The list with the cell `(a, v)` before the first higher address. -/
def memInsert (m : List Host.Cell) (a : Nat) (v : Byte) : List Host.Cell :=
  match m with
  | [] => [(a, v)]
  | (k, w) :: m' => if a < k then (a, v) :: (k, w) :: m' else (k, w) :: memInsert m' a v

/-- The list after `v` is written at `a`: writing 0x00 removes the cell. -/
def memPut (m : List Host.Cell) (a : Nat) (v : Byte) : List Host.Cell :=
  if v = 0x00 then memErase m a else memInsert (memErase m a) a v

/-- The canonical form from address `lo` on. -/
def memCanonicalFrom (lo : Nat) (m : List Host.Cell) : Bool :=
  match m with
  | [] => true
  | (k, v) :: m' => decide (lo ≤ k) && decide (k < 65536) && decide (v ≠ 0x00) && memCanonicalFrom (k + 1) m'

/-- The canonical form of a memory: equal memories are then equal lists. -/
def Memory.wf (m : List Host.Cell) : Bool := memCanonicalFrom 0 m

/-- `MemRead(addr, 1)` (R34). -/
def State.memRead (s : State) (a : Word) : Byte := memGet s.mem a.toNat

/-- `MemWrite(addr, 1, v)` (R34). -/
def State.memWrite (s : State) (a : Word) (v : Byte) : State := { s with mem := memPut s.mem a.toNat v }

/-- `MemRead(addr, 2)`: little-endian, the second address wrapping (R34). -/
def State.memRead16 (s : State) (a : Word) : Word := cat (s.memRead (a + 1)) (s.memRead a)

/-- `MemWrite(addr, 2, v)`: the low byte first (R34, R44). -/
def State.memWrite16 (s : State) (a v : Word) : State := (s.memWrite a (loByte v)).memWrite (a + 1) (hiByte v)

/-- The bytes of `bytes` written from `a` on. -/
def State.memWriteList (s : State) (a : Word) (bytes : List Byte) : State :=
  match bytes with
  | [] => s
  | v :: bytes' => (s.memWrite a v).memWriteList (a + 1) bytes'

/-! ## Registers and pairs (R13, R15) -/

/-- The value of a register. -/
def Regs.get (g : Regs) (r : Reg) : Byte :=
  match r with
  | .b => g.b
  | .c => g.c
  | .d => g.d
  | .e => g.e
  | .h => g.h
  | .l => g.l
  | .a => g.a

/-- The registers after `v` is written to `r`. -/
def Regs.set (g : Regs) (r : Reg) (v : Byte) : Regs :=
  match r with
  | .b => { g with b := v }
  | .c => { g with c := v }
  | .d => { g with d := v }
  | .e => { g with e := v }
  | .h => { g with h := v }
  | .l => { g with l := v }
  | .a => { g with a := v }

/-- `r8[c]` (R10). -/
def State.reg (s : State) (r : Reg) : Byte := s.regs.get r

/-- `r8[c] <- v` (R10). -/
def State.setReg (s : State) (r : Reg) (v : Byte) : State := { s with regs := s.regs.set r v }

/-- BC (R15). -/
def State.bc (s : State) : Word := cat (s.reg .b) (s.reg .c)

/-- DE (R15). -/
def State.de (s : State) : Word := cat (s.reg .d) (s.reg .e)

/-- HL (R15). -/
def State.hl (s : State) : Word := cat (s.reg .h) (s.reg .l)

/-- The flag byte F, for PUSH PSW and introspection (R20, R30). -/
def State.flagByte (s : State) : Byte := s.flags.toByte

/-- PSW, A and F (R31). -/
def State.psw (s : State) : Word := cat (s.reg .a) s.flagByte

/-- `BC <- v` (R15). -/
def State.setBC (s : State) (v : Word) : State := (s.setReg .b (hiByte v)).setReg .c (loByte v)

/-- `DE <- v` (R15). -/
def State.setDE (s : State) (v : Word) : State := (s.setReg .d (hiByte v)).setReg .e (loByte v)

/-- `HL <- v` (R15). -/
def State.setHL (s : State) (v : Word) : State := (s.setReg .h (hiByte v)).setReg .l (loByte v)

/-- A and the flags from a popped PSW: the padding bits of the low byte are ignored (R21, R148). -/
def State.setPSW (s : State) (v : Word) : State :=
  { s.setReg .a (hiByte v) with flags := Flags.ofByte (loByte v) }

/-! ## The stack (R23, R110, R111) -/

/-- `Push16(v)` (R110). -/
def State.push16 (s : State) (v : Word) : State :=
  { (s.memWrite (s.sp - 1) (hiByte v)).memWrite (s.sp - 2) (loByte v) with sp := s.sp - 2 }

/-- What `Pop16()` returns (R111): the low byte at sp, the high byte at sp + 1. -/
def State.top16 (s : State) : Word := cat (s.memRead (s.sp + 1)) (s.memRead s.sp)

/-- What `Pop16()` does to the state (R111): sp rises by 2, memory stays. -/
def State.drop16 (s : State) : State := { s with sp := s.sp + 2 }

/-! ## Interrupt entry (R164) -/

/-- The effect of interrupt entry with vector `n`: pc is pushed, pc becomes 8 × n, IE becomes 0, nothing else changes; the
flags are not saved and `last_cycles` stays. The way back is RET (R169). When the host may ask for it is
`raiseInterrupt` (Machine/Driver.lean). -/
def State.enterInterrupt (s : State) (n : Nat) : State :=
  { s.push16 s.pc with pc := BitVec.ofNat 16 (8 * n), ie := false }

/-! ## The I/O ports (R47, R151 to R154) -/

/-- IN's access: with a handler, A takes the byte it answers, which is a free value (assumption 5), and the transaction is
logged; without one, nothing happens (R151, R153). -/
def State.portRead (s : State) (port : Byte) : State :=
  if s.ioPresent then
    let v := Config.ioRead s s.draws port
    { s.setReg .a v with ioLog := s.ioLog ++ [.read port v] }
  else s

/-- OUT's access: with a handler, the event (port, A) is logged; without one, nothing happens (R152, R154). -/
def State.portWrite (s : State) (port : Byte) : State :=
  if s.ioPresent then { s with ioLog := s.ioLog ++ [.write port (s.reg .a)] } else s

end Sys2Proof.Machine
end

