-- ==== Sys2Proof/Machine/Operands.lean ====
section
/-! DEFINITION. The operand forms: what a 3-bit register code names (R63), what a pair code names in each group of
instructions (R51), and the conditions (R112). -/

namespace Sys2Proof.Machine

/-- `Read8(c)` (R63): M is the byte at the HL of this moment. -/
def State.read8 (o : Opnd) (s : State) : Byte :=
  match o with
  | .reg r => s.reg r
  | .m => s.memRead s.hl

/-- `Write8(c, v)` (R63). -/
def State.write8 (o : Opnd) (v : Byte) (s : State) : State :=
  match o with
  | .reg r => s.setReg r v
  | .m => s.memWrite s.hl v

/-- `rp[pp]` for LXI, INX, DCX and DAD. -/
def State.pair (p : Pair) (s : State) : Word :=
  match p with
  | .bc => s.bc
  | .de => s.de
  | .hl => s.hl
  | .sp => s.sp

/-- `rp[pp] <- v` for LXI, INX and DCX. -/
def State.setPair (p : Pair) (v : Word) (s : State) : State :=
  match p with
  | .bc => s.setBC v
  | .de => s.setDE v
  | .hl => s.setHL v
  | .sp => { s with sp := v }

/-- What PUSH pushes. -/
def State.stackPair (p : StackPair) (s : State) : Word :=
  match p with
  | .bc => s.bc
  | .de => s.de
  | .hl => s.hl
  | .psw => s.psw

/-- Where POP puts what it popped. -/
def State.setStackPair (p : StackPair) (v : Word) (s : State) : State :=
  match p with
  | .bc => s.setBC v
  | .de => s.setDE v
  | .hl => s.setHL v
  | .psw => s.setPSW v

/-- The address LDAX and STAX use. -/
def State.indirect (p : IndPair) (s : State) : Word :=
  match p with
  | .bc => s.bc
  | .de => s.de

/-- `cond(ccc)` (R112, R52). -/
def condHolds (cond : Cond) (f : Flags) : Bool :=
  match cond with
  | .nz => !f.z
  | .z => f.z
  | .nc => !f.cy
  | .c => f.cy
  | .po => !f.p
  | .pe => f.p
  | .p => !f.s
  | .m => f.s

end Sys2Proof.Machine
end

