-- ==== Sys2Proof/Machine/DataTransfer.lean ====
section
/-! DEFINITION. The data-transfer instructions (40_data_transfer.md, R64 to R76). None writes a flag. The shared effects come
first, then one meaning per row of the table. -/

namespace Sys2Proof.Machine

/-- MOV (R64 to R66): the source is read, and the address of M taken, before the destination is written. -/
def State.move (dst src : Opnd) (s : State) : State := s.write8 dst (s.read8 src)

/-- LDA (R70). -/
def State.loadA (a16 : Word) (s : State) : State := s.setReg .a (s.memRead a16)

/-- STA (R71). -/
def State.storeA (a16 : Word) (s : State) : State := s.memWrite a16 (s.reg .a)

/-- LHLD (R72): L from the lower address. -/
def State.loadHL (a16 : Word) (s : State) : State := s.setHL (s.memRead16 a16)

/-- SHLD (R73). -/
def State.storeHL (a16 : Word) (s : State) : State := s.memWrite16 a16 s.hl

/-- LDAX (R74). -/
def State.loadAIndirect (p : IndPair) (s : State) : State := s.setReg .a (s.memRead (s.indirect p))

/-- STAX (R75). -/
def State.storeAIndirect (p : IndPair) (s : State) : State := s.memWrite (s.indirect p) (s.reg .a)

/-- XCHG (R76). -/
def State.exchange (s : State) : State := (s.setHL s.de).setDE s.hl

/-! ## One meaning per row -/

/-- R64, 0x40: MOV B,B. -/
def execMovBB (s : State) : Answer := .next (State.move (.reg .b) (.reg .b) s)

/-- R64, 0x41: MOV B,C. -/
def execMovBC (s : State) : Answer := .next (State.move (.reg .b) (.reg .c) s)

/-- R64, 0x42: MOV B,D. -/
def execMovBD (s : State) : Answer := .next (State.move (.reg .b) (.reg .d) s)

/-- R64, 0x43: MOV B,E. -/
def execMovBE (s : State) : Answer := .next (State.move (.reg .b) (.reg .e) s)

/-- R64, 0x44: MOV B,H. -/
def execMovBH (s : State) : Answer := .next (State.move (.reg .b) (.reg .h) s)

/-- R64, 0x45: MOV B,L. -/
def execMovBL (s : State) : Answer := .next (State.move (.reg .b) (.reg .l) s)

/-- R64, 0x47: MOV B,A. -/
def execMovBA (s : State) : Answer := .next (State.move (.reg .b) (.reg .a) s)

/-- R64, 0x48: MOV C,B. -/
def execMovCB (s : State) : Answer := .next (State.move (.reg .c) (.reg .b) s)

/-- R64, 0x49: MOV C,C. -/
def execMovCC (s : State) : Answer := .next (State.move (.reg .c) (.reg .c) s)

/-- R64, 0x4A: MOV C,D. -/
def execMovCD (s : State) : Answer := .next (State.move (.reg .c) (.reg .d) s)

/-- R64, 0x4B: MOV C,E. -/
def execMovCE (s : State) : Answer := .next (State.move (.reg .c) (.reg .e) s)

/-- R64, 0x4C: MOV C,H. -/
def execMovCH (s : State) : Answer := .next (State.move (.reg .c) (.reg .h) s)

/-- R64, 0x4D: MOV C,L. -/
def execMovCL (s : State) : Answer := .next (State.move (.reg .c) (.reg .l) s)

/-- R64, 0x4F: MOV C,A. -/
def execMovCA (s : State) : Answer := .next (State.move (.reg .c) (.reg .a) s)

/-- R64, 0x50: MOV D,B. -/
def execMovDB (s : State) : Answer := .next (State.move (.reg .d) (.reg .b) s)

/-- R64, 0x51: MOV D,C. -/
def execMovDC (s : State) : Answer := .next (State.move (.reg .d) (.reg .c) s)

/-- R64, 0x52: MOV D,D. -/
def execMovDD (s : State) : Answer := .next (State.move (.reg .d) (.reg .d) s)

/-- R64, 0x53: MOV D,E. -/
def execMovDE (s : State) : Answer := .next (State.move (.reg .d) (.reg .e) s)

/-- R64, 0x54: MOV D,H. -/
def execMovDH (s : State) : Answer := .next (State.move (.reg .d) (.reg .h) s)

/-- R64, 0x55: MOV D,L. -/
def execMovDL (s : State) : Answer := .next (State.move (.reg .d) (.reg .l) s)

/-- R64, 0x57: MOV D,A. -/
def execMovDA (s : State) : Answer := .next (State.move (.reg .d) (.reg .a) s)

/-- R64, 0x58: MOV E,B. -/
def execMovEB (s : State) : Answer := .next (State.move (.reg .e) (.reg .b) s)

/-- R64, 0x59: MOV E,C. -/
def execMovEC (s : State) : Answer := .next (State.move (.reg .e) (.reg .c) s)

/-- R64, 0x5A: MOV E,D. -/
def execMovED (s : State) : Answer := .next (State.move (.reg .e) (.reg .d) s)

/-- R64, 0x5B: MOV E,E. -/
def execMovEE (s : State) : Answer := .next (State.move (.reg .e) (.reg .e) s)

/-- R64, 0x5C: MOV E,H. -/
def execMovEH (s : State) : Answer := .next (State.move (.reg .e) (.reg .h) s)

/-- R64, 0x5D: MOV E,L. -/
def execMovEL (s : State) : Answer := .next (State.move (.reg .e) (.reg .l) s)

/-- R64, 0x5F: MOV E,A. -/
def execMovEA (s : State) : Answer := .next (State.move (.reg .e) (.reg .a) s)

/-- R64, 0x60: MOV H,B. -/
def execMovHB (s : State) : Answer := .next (State.move (.reg .h) (.reg .b) s)

/-- R64, 0x61: MOV H,C. -/
def execMovHC (s : State) : Answer := .next (State.move (.reg .h) (.reg .c) s)

/-- R64, 0x62: MOV H,D. -/
def execMovHD (s : State) : Answer := .next (State.move (.reg .h) (.reg .d) s)

/-- R64, 0x63: MOV H,E. -/
def execMovHE (s : State) : Answer := .next (State.move (.reg .h) (.reg .e) s)

/-- R64, 0x64: MOV H,H. -/
def execMovHH (s : State) : Answer := .next (State.move (.reg .h) (.reg .h) s)

/-- R64, 0x65: MOV H,L. -/
def execMovHL (s : State) : Answer := .next (State.move (.reg .h) (.reg .l) s)

/-- R64, 0x67: MOV H,A. -/
def execMovHA (s : State) : Answer := .next (State.move (.reg .h) (.reg .a) s)

/-- R64, 0x68: MOV L,B. -/
def execMovLB (s : State) : Answer := .next (State.move (.reg .l) (.reg .b) s)

/-- R64, 0x69: MOV L,C. -/
def execMovLC (s : State) : Answer := .next (State.move (.reg .l) (.reg .c) s)

/-- R64, 0x6A: MOV L,D. -/
def execMovLD (s : State) : Answer := .next (State.move (.reg .l) (.reg .d) s)

/-- R64, 0x6B: MOV L,E. -/
def execMovLE (s : State) : Answer := .next (State.move (.reg .l) (.reg .e) s)

/-- R64, 0x6C: MOV L,H. -/
def execMovLH (s : State) : Answer := .next (State.move (.reg .l) (.reg .h) s)

/-- R64, 0x6D: MOV L,L. -/
def execMovLL (s : State) : Answer := .next (State.move (.reg .l) (.reg .l) s)

/-- R64, 0x6F: MOV L,A. -/
def execMovLA (s : State) : Answer := .next (State.move (.reg .l) (.reg .a) s)

/-- R64, 0x78: MOV A,B. -/
def execMovAB (s : State) : Answer := .next (State.move (.reg .a) (.reg .b) s)

/-- R64, 0x79: MOV A,C. -/
def execMovAC (s : State) : Answer := .next (State.move (.reg .a) (.reg .c) s)

/-- R64, 0x7A: MOV A,D. -/
def execMovAD (s : State) : Answer := .next (State.move (.reg .a) (.reg .d) s)

/-- R64, 0x7B: MOV A,E. -/
def execMovAE (s : State) : Answer := .next (State.move (.reg .a) (.reg .e) s)

/-- R64, 0x7C: MOV A,H. -/
def execMovAH (s : State) : Answer := .next (State.move (.reg .a) (.reg .h) s)

/-- R64, 0x7D: MOV A,L. -/
def execMovAL (s : State) : Answer := .next (State.move (.reg .a) (.reg .l) s)

/-- R64, 0x7F: MOV A,A. -/
def execMovAA (s : State) : Answer := .next (State.move (.reg .a) (.reg .a) s)

/-- R65, 0x46: MOV B,M. -/
def execMovBM (s : State) : Answer := .next (State.move (.reg .b) .m s)

/-- R65, 0x4E: MOV C,M. -/
def execMovCM (s : State) : Answer := .next (State.move (.reg .c) .m s)

/-- R65, 0x56: MOV D,M. -/
def execMovDM (s : State) : Answer := .next (State.move (.reg .d) .m s)

/-- R65, 0x5E: MOV E,M. -/
def execMovEM (s : State) : Answer := .next (State.move (.reg .e) .m s)

/-- R65, 0x66: MOV H,M. -/
def execMovHM (s : State) : Answer := .next (State.move (.reg .h) .m s)

/-- R65, 0x6E: MOV L,M. -/
def execMovLM (s : State) : Answer := .next (State.move (.reg .l) .m s)

/-- R65, 0x7E: MOV A,M. -/
def execMovAM (s : State) : Answer := .next (State.move (.reg .a) .m s)

/-- R66, 0x70: MOV M,B. -/
def execMovMB (s : State) : Answer := .next (State.move .m (.reg .b) s)

/-- R66, 0x71: MOV M,C. -/
def execMovMC (s : State) : Answer := .next (State.move .m (.reg .c) s)

/-- R66, 0x72: MOV M,D. -/
def execMovMD (s : State) : Answer := .next (State.move .m (.reg .d) s)

/-- R66, 0x73: MOV M,E. -/
def execMovME (s : State) : Answer := .next (State.move .m (.reg .e) s)

/-- R66, 0x74: MOV M,H. -/
def execMovMH (s : State) : Answer := .next (State.move .m (.reg .h) s)

/-- R66, 0x75: MOV M,L. -/
def execMovML (s : State) : Answer := .next (State.move .m (.reg .l) s)

/-- R66, 0x77: MOV M,A. -/
def execMovMA (s : State) : Answer := .next (State.move .m (.reg .a) s)

/-- R67, 0x06: MVI B,d8. -/
def execMviB (d8 : Byte) (s : State) : Answer := .next (State.write8 (.reg .b) d8 s)

/-- R67, 0x0E: MVI C,d8. -/
def execMviC (d8 : Byte) (s : State) : Answer := .next (State.write8 (.reg .c) d8 s)

/-- R67, 0x16: MVI D,d8. -/
def execMviD (d8 : Byte) (s : State) : Answer := .next (State.write8 (.reg .d) d8 s)

/-- R67, 0x1E: MVI E,d8. -/
def execMviE (d8 : Byte) (s : State) : Answer := .next (State.write8 (.reg .e) d8 s)

/-- R67, 0x26: MVI H,d8. -/
def execMviH (d8 : Byte) (s : State) : Answer := .next (State.write8 (.reg .h) d8 s)

/-- R67, 0x2E: MVI L,d8. -/
def execMviL (d8 : Byte) (s : State) : Answer := .next (State.write8 (.reg .l) d8 s)

/-- R67, 0x3E: MVI A,d8. -/
def execMviA (d8 : Byte) (s : State) : Answer := .next (State.write8 (.reg .a) d8 s)

/-- R68, 0x36: MVI M,d8. -/
def execMviM (d8 : Byte) (s : State) : Answer := .next (State.write8 .m d8 s)

/-- R69, 0x01: LXI B,d16. -/
def execLxiB (d16 : Word) (s : State) : Answer := .next (State.setPair .bc d16 s)

/-- R69, 0x11: LXI D,d16. -/
def execLxiD (d16 : Word) (s : State) : Answer := .next (State.setPair .de d16 s)

/-- R69, 0x21: LXI H,d16. -/
def execLxiH (d16 : Word) (s : State) : Answer := .next (State.setPair .hl d16 s)

/-- R69, 0x31: LXI SP,d16. -/
def execLxiSp (d16 : Word) (s : State) : Answer := .next (State.setPair .sp d16 s)

/-- R70, 0x3A: LDA a16. -/
def execLda (a16 : Word) (s : State) : Answer := .next (State.loadA a16 s)

/-- R71, 0x32: STA a16. -/
def execSta (a16 : Word) (s : State) : Answer := .next (State.storeA a16 s)

/-- R72, 0x2A: LHLD a16. -/
def execLhld (a16 : Word) (s : State) : Answer := .next (State.loadHL a16 s)

/-- R73, 0x22: SHLD a16. -/
def execShld (a16 : Word) (s : State) : Answer := .next (State.storeHL a16 s)

/-- R74, 0x0A: LDAX B. -/
def execLdaxB (s : State) : Answer := .next (State.loadAIndirect .bc s)

/-- R74, 0x1A: LDAX D. -/
def execLdaxD (s : State) : Answer := .next (State.loadAIndirect .de s)

/-- R75, 0x02: STAX B. -/
def execStaxB (s : State) : Answer := .next (State.storeAIndirect .bc s)

/-- R75, 0x12: STAX D. -/
def execStaxD (s : State) : Answer := .next (State.storeAIndirect .de s)

/-- R76, 0xEB: XCHG. -/
def execXchg (s : State) : Answer := .next (State.exchange s)

end Sys2Proof.Machine
end

