-- ==== Sys2Proof/Machine/Arithmetic.lean ====
section
/-! DEFINITION. The arithmetic instructions (41_arithmetic.md, R80 to R93), and the one shared effect of every accumulator
operation, the logical ones of Machine/Logical.lean among them. -/

namespace Sys2Proof.Machine

/-- An accumulator operation with the operand `b` (R80 to R87, R95 to R102): A takes the result unless the operation is a
compare, and all five flags are written. -/
def State.alu (op : AluOp) (b : Byte) (s : State) : State :=
  let o := aluCompute op (s.reg .a) b s.flags.cy
  { (if aluWritesA op then s.setReg .a o.r else s) with flags := o.flags }

/-- INR (R88): CY is not written. -/
def State.increment (dst : Opnd) (s : State) : State :=
  let o := add8 (s.read8 dst) 1 false
  { s.write8 dst o.r with flags := o.flagsKeepCarry s.flags }

/-- DCR (R89): CY is not written. -/
def State.decrement (dst : Opnd) (s : State) : State :=
  let o := sub8 (s.read8 dst) 1 false
  { s.write8 dst o.r with flags := o.flagsKeepCarry s.flags }

/-- INX (R90). -/
def State.incPair (p : Pair) (s : State) : State := s.setPair p (s.pair p + 1)

/-- DCX (R91). -/
def State.decPair (p : Pair) (s : State) : State := s.setPair p (s.pair p - 1)

/-- DAD (R92): CY is the carry out of bit 15, no other flag is written. -/
def State.addPair (p : Pair) (s : State) : State :=
  let t := s.hl.toNat + (s.pair p).toNat
  { s.setHL (BitVec.ofNat 16 t) with flags := { s.flags with cy := decide (t > 0xFFFF) } }

/-- DAA (R93). -/
def State.decimalAdjust (s : State) : State :=
  let o := daa8 (s.reg .a) s.flags.ac s.flags.cy
  { s.setReg .a o.r with flags := o.flags }

/-! ## One meaning per row -/

/-- R80, 0x80: ADD B. -/
def execAddB (s : State) : Answer := .next (State.alu .add (State.read8 (.reg .b) s) s)

/-- R80, 0x81: ADD C. -/
def execAddC (s : State) : Answer := .next (State.alu .add (State.read8 (.reg .c) s) s)

/-- R80, 0x82: ADD D. -/
def execAddD (s : State) : Answer := .next (State.alu .add (State.read8 (.reg .d) s) s)

/-- R80, 0x83: ADD E. -/
def execAddE (s : State) : Answer := .next (State.alu .add (State.read8 (.reg .e) s) s)

/-- R80, 0x84: ADD H. -/
def execAddH (s : State) : Answer := .next (State.alu .add (State.read8 (.reg .h) s) s)

/-- R80, 0x85: ADD L. -/
def execAddL (s : State) : Answer := .next (State.alu .add (State.read8 (.reg .l) s) s)

/-- R80, 0x86: ADD M. -/
def execAddM (s : State) : Answer := .next (State.alu .add (State.read8 .m s) s)

/-- R80, 0x87: ADD A. -/
def execAddA (s : State) : Answer := .next (State.alu .add (State.read8 (.reg .a) s) s)

/-- R81, 0x88: ADC B. -/
def execAdcB (s : State) : Answer := .next (State.alu .adc (State.read8 (.reg .b) s) s)

/-- R81, 0x89: ADC C. -/
def execAdcC (s : State) : Answer := .next (State.alu .adc (State.read8 (.reg .c) s) s)

/-- R81, 0x8A: ADC D. -/
def execAdcD (s : State) : Answer := .next (State.alu .adc (State.read8 (.reg .d) s) s)

/-- R81, 0x8B: ADC E. -/
def execAdcE (s : State) : Answer := .next (State.alu .adc (State.read8 (.reg .e) s) s)

/-- R81, 0x8C: ADC H. -/
def execAdcH (s : State) : Answer := .next (State.alu .adc (State.read8 (.reg .h) s) s)

/-- R81, 0x8D: ADC L. -/
def execAdcL (s : State) : Answer := .next (State.alu .adc (State.read8 (.reg .l) s) s)

/-- R81, 0x8E: ADC M. -/
def execAdcM (s : State) : Answer := .next (State.alu .adc (State.read8 .m s) s)

/-- R81, 0x8F: ADC A. -/
def execAdcA (s : State) : Answer := .next (State.alu .adc (State.read8 (.reg .a) s) s)

/-- R82, 0x90: SUB B. -/
def execSubB (s : State) : Answer := .next (State.alu .sub (State.read8 (.reg .b) s) s)

/-- R82, 0x91: SUB C. -/
def execSubC (s : State) : Answer := .next (State.alu .sub (State.read8 (.reg .c) s) s)

/-- R82, 0x92: SUB D. -/
def execSubD (s : State) : Answer := .next (State.alu .sub (State.read8 (.reg .d) s) s)

/-- R82, 0x93: SUB E. -/
def execSubE (s : State) : Answer := .next (State.alu .sub (State.read8 (.reg .e) s) s)

/-- R82, 0x94: SUB H. -/
def execSubH (s : State) : Answer := .next (State.alu .sub (State.read8 (.reg .h) s) s)

/-- R82, 0x95: SUB L. -/
def execSubL (s : State) : Answer := .next (State.alu .sub (State.read8 (.reg .l) s) s)

/-- R82, 0x96: SUB M. -/
def execSubM (s : State) : Answer := .next (State.alu .sub (State.read8 .m s) s)

/-- R82, 0x97: SUB A. -/
def execSubA (s : State) : Answer := .next (State.alu .sub (State.read8 (.reg .a) s) s)

/-- R83, 0x98: SBB B. -/
def execSbbB (s : State) : Answer := .next (State.alu .sbb (State.read8 (.reg .b) s) s)

/-- R83, 0x99: SBB C. -/
def execSbbC (s : State) : Answer := .next (State.alu .sbb (State.read8 (.reg .c) s) s)

/-- R83, 0x9A: SBB D. -/
def execSbbD (s : State) : Answer := .next (State.alu .sbb (State.read8 (.reg .d) s) s)

/-- R83, 0x9B: SBB E. -/
def execSbbE (s : State) : Answer := .next (State.alu .sbb (State.read8 (.reg .e) s) s)

/-- R83, 0x9C: SBB H. -/
def execSbbH (s : State) : Answer := .next (State.alu .sbb (State.read8 (.reg .h) s) s)

/-- R83, 0x9D: SBB L. -/
def execSbbL (s : State) : Answer := .next (State.alu .sbb (State.read8 (.reg .l) s) s)

/-- R83, 0x9E: SBB M. -/
def execSbbM (s : State) : Answer := .next (State.alu .sbb (State.read8 .m s) s)

/-- R83, 0x9F: SBB A. -/
def execSbbA (s : State) : Answer := .next (State.alu .sbb (State.read8 (.reg .a) s) s)

/-- R84, 0xC6: ADI d8. -/
def execAdi (d8 : Byte) (s : State) : Answer := .next (State.alu .add d8 s)

/-- R85, 0xCE: ACI d8. -/
def execAci (d8 : Byte) (s : State) : Answer := .next (State.alu .adc d8 s)

/-- R86, 0xD6: SUI d8. -/
def execSui (d8 : Byte) (s : State) : Answer := .next (State.alu .sub d8 s)

/-- R87, 0xDE: SBI d8. -/
def execSbi (d8 : Byte) (s : State) : Answer := .next (State.alu .sbb d8 s)

/-- R88, 0x04: INR B. -/
def execInrB (s : State) : Answer := .next (State.increment (.reg .b) s)

/-- R88, 0x0C: INR C. -/
def execInrC (s : State) : Answer := .next (State.increment (.reg .c) s)

/-- R88, 0x14: INR D. -/
def execInrD (s : State) : Answer := .next (State.increment (.reg .d) s)

/-- R88, 0x1C: INR E. -/
def execInrE (s : State) : Answer := .next (State.increment (.reg .e) s)

/-- R88, 0x24: INR H. -/
def execInrH (s : State) : Answer := .next (State.increment (.reg .h) s)

/-- R88, 0x2C: INR L. -/
def execInrL (s : State) : Answer := .next (State.increment (.reg .l) s)

/-- R88, 0x34: INR M. -/
def execInrM (s : State) : Answer := .next (State.increment .m s)

/-- R88, 0x3C: INR A. -/
def execInrA (s : State) : Answer := .next (State.increment (.reg .a) s)

/-- R89, 0x05: DCR B. -/
def execDcrB (s : State) : Answer := .next (State.decrement (.reg .b) s)

/-- R89, 0x0D: DCR C. -/
def execDcrC (s : State) : Answer := .next (State.decrement (.reg .c) s)

/-- R89, 0x15: DCR D. -/
def execDcrD (s : State) : Answer := .next (State.decrement (.reg .d) s)

/-- R89, 0x1D: DCR E. -/
def execDcrE (s : State) : Answer := .next (State.decrement (.reg .e) s)

/-- R89, 0x25: DCR H. -/
def execDcrH (s : State) : Answer := .next (State.decrement (.reg .h) s)

/-- R89, 0x2D: DCR L. -/
def execDcrL (s : State) : Answer := .next (State.decrement (.reg .l) s)

/-- R89, 0x35: DCR M. -/
def execDcrM (s : State) : Answer := .next (State.decrement .m s)

/-- R89, 0x3D: DCR A. -/
def execDcrA (s : State) : Answer := .next (State.decrement (.reg .a) s)

/-- R90, 0x03: INX B. -/
def execInxB (s : State) : Answer := .next (State.incPair .bc s)

/-- R90, 0x13: INX D. -/
def execInxD (s : State) : Answer := .next (State.incPair .de s)

/-- R90, 0x23: INX H. -/
def execInxH (s : State) : Answer := .next (State.incPair .hl s)

/-- R90, 0x33: INX SP. -/
def execInxSp (s : State) : Answer := .next (State.incPair .sp s)

/-- R91, 0x0B: DCX B. -/
def execDcxB (s : State) : Answer := .next (State.decPair .bc s)

/-- R91, 0x1B: DCX D. -/
def execDcxD (s : State) : Answer := .next (State.decPair .de s)

/-- R91, 0x2B: DCX H. -/
def execDcxH (s : State) : Answer := .next (State.decPair .hl s)

/-- R91, 0x3B: DCX SP. -/
def execDcxSp (s : State) : Answer := .next (State.decPair .sp s)

/-- R92, 0x09: DAD B. -/
def execDadB (s : State) : Answer := .next (State.addPair .bc s)

/-- R92, 0x19: DAD D. -/
def execDadD (s : State) : Answer := .next (State.addPair .de s)

/-- R92, 0x29: DAD H. -/
def execDadH (s : State) : Answer := .next (State.addPair .hl s)

/-- R92, 0x39: DAD SP. -/
def execDadSp (s : State) : Answer := .next (State.addPair .sp s)

/-- R93, 0x27: DAA. -/
def execDaa (s : State) : Answer := .next (State.decimalAdjust s)

end Sys2Proof.Machine
end

