-- ==== Sys2Proof/Machine/Logical.lean ====
section
/-! DEFINITION. The logical, compare, rotate and carry instructions (42_logical.md, R95 to R109). -/

namespace Sys2Proof.Machine

/-- A and CY from a rotate: no other flag is written. -/
def State.setRotated (o : Byte × Bool) (s : State) : State :=
  { s.setReg .a o.1 with flags := { s.flags with cy := o.2 } }

/-- RLC (R103). -/
def State.rotateLeft (s : State) : State := s.setRotated (rlc8 (s.reg .a))

/-- RRC (R104). -/
def State.rotateRight (s : State) : State := s.setRotated (rrc8 (s.reg .a))

/-- RAL (R105). -/
def State.rotateLeftCarry (s : State) : State := s.setRotated (ral8 (s.reg .a) s.flags.cy)

/-- RAR (R106). -/
def State.rotateRightCarry (s : State) : State := s.setRotated (rar8 (s.reg .a) s.flags.cy)

/-- CMA (R107). -/
def State.complementA (s : State) : State := s.setReg .a (~~~(s.reg .a))

/-- CMC (R108). -/
def State.complementCarry (s : State) : State := { s with flags := { s.flags with cy := !s.flags.cy } }

/-- STC (R109). -/
def State.setCarry (s : State) : State := { s with flags := { s.flags with cy := true } }

/-! ## One meaning per row -/

/-- R95, 0xA0: ANA B. -/
def execAnaB (s : State) : Answer := .next (State.alu .ana (State.read8 (.reg .b) s) s)

/-- R95, 0xA1: ANA C. -/
def execAnaC (s : State) : Answer := .next (State.alu .ana (State.read8 (.reg .c) s) s)

/-- R95, 0xA2: ANA D. -/
def execAnaD (s : State) : Answer := .next (State.alu .ana (State.read8 (.reg .d) s) s)

/-- R95, 0xA3: ANA E. -/
def execAnaE (s : State) : Answer := .next (State.alu .ana (State.read8 (.reg .e) s) s)

/-- R95, 0xA4: ANA H. -/
def execAnaH (s : State) : Answer := .next (State.alu .ana (State.read8 (.reg .h) s) s)

/-- R95, 0xA5: ANA L. -/
def execAnaL (s : State) : Answer := .next (State.alu .ana (State.read8 (.reg .l) s) s)

/-- R95, 0xA6: ANA M. -/
def execAnaM (s : State) : Answer := .next (State.alu .ana (State.read8 .m s) s)

/-- R95, 0xA7: ANA A. -/
def execAnaA (s : State) : Answer := .next (State.alu .ana (State.read8 (.reg .a) s) s)

/-- R96, 0xA8: XRA B. -/
def execXraB (s : State) : Answer := .next (State.alu .xra (State.read8 (.reg .b) s) s)

/-- R96, 0xA9: XRA C. -/
def execXraC (s : State) : Answer := .next (State.alu .xra (State.read8 (.reg .c) s) s)

/-- R96, 0xAA: XRA D. -/
def execXraD (s : State) : Answer := .next (State.alu .xra (State.read8 (.reg .d) s) s)

/-- R96, 0xAB: XRA E. -/
def execXraE (s : State) : Answer := .next (State.alu .xra (State.read8 (.reg .e) s) s)

/-- R96, 0xAC: XRA H. -/
def execXraH (s : State) : Answer := .next (State.alu .xra (State.read8 (.reg .h) s) s)

/-- R96, 0xAD: XRA L. -/
def execXraL (s : State) : Answer := .next (State.alu .xra (State.read8 (.reg .l) s) s)

/-- R96, 0xAE: XRA M. -/
def execXraM (s : State) : Answer := .next (State.alu .xra (State.read8 .m s) s)

/-- R96, 0xAF: XRA A. -/
def execXraA (s : State) : Answer := .next (State.alu .xra (State.read8 (.reg .a) s) s)

/-- R97, 0xB0: ORA B. -/
def execOraB (s : State) : Answer := .next (State.alu .ora (State.read8 (.reg .b) s) s)

/-- R97, 0xB1: ORA C. -/
def execOraC (s : State) : Answer := .next (State.alu .ora (State.read8 (.reg .c) s) s)

/-- R97, 0xB2: ORA D. -/
def execOraD (s : State) : Answer := .next (State.alu .ora (State.read8 (.reg .d) s) s)

/-- R97, 0xB3: ORA E. -/
def execOraE (s : State) : Answer := .next (State.alu .ora (State.read8 (.reg .e) s) s)

/-- R97, 0xB4: ORA H. -/
def execOraH (s : State) : Answer := .next (State.alu .ora (State.read8 (.reg .h) s) s)

/-- R97, 0xB5: ORA L. -/
def execOraL (s : State) : Answer := .next (State.alu .ora (State.read8 (.reg .l) s) s)

/-- R97, 0xB6: ORA M. -/
def execOraM (s : State) : Answer := .next (State.alu .ora (State.read8 .m s) s)

/-- R97, 0xB7: ORA A. -/
def execOraA (s : State) : Answer := .next (State.alu .ora (State.read8 (.reg .a) s) s)

/-- R98, 0xB8: CMP B. -/
def execCmpB (s : State) : Answer := .next (State.alu .cmp (State.read8 (.reg .b) s) s)

/-- R98, 0xB9: CMP C. -/
def execCmpC (s : State) : Answer := .next (State.alu .cmp (State.read8 (.reg .c) s) s)

/-- R98, 0xBA: CMP D. -/
def execCmpD (s : State) : Answer := .next (State.alu .cmp (State.read8 (.reg .d) s) s)

/-- R98, 0xBB: CMP E. -/
def execCmpE (s : State) : Answer := .next (State.alu .cmp (State.read8 (.reg .e) s) s)

/-- R98, 0xBC: CMP H. -/
def execCmpH (s : State) : Answer := .next (State.alu .cmp (State.read8 (.reg .h) s) s)

/-- R98, 0xBD: CMP L. -/
def execCmpL (s : State) : Answer := .next (State.alu .cmp (State.read8 (.reg .l) s) s)

/-- R98, 0xBE: CMP M. -/
def execCmpM (s : State) : Answer := .next (State.alu .cmp (State.read8 .m s) s)

/-- R98, 0xBF: CMP A. -/
def execCmpA (s : State) : Answer := .next (State.alu .cmp (State.read8 (.reg .a) s) s)

/-- R99, 0xE6: ANI d8. -/
def execAni (d8 : Byte) (s : State) : Answer := .next (State.alu .ana d8 s)

/-- R100, 0xEE: XRI d8. -/
def execXri (d8 : Byte) (s : State) : Answer := .next (State.alu .xra d8 s)

/-- R101, 0xF6: ORI d8. -/
def execOri (d8 : Byte) (s : State) : Answer := .next (State.alu .ora d8 s)

/-- R102, 0xFE: CPI d8. -/
def execCpi (d8 : Byte) (s : State) : Answer := .next (State.alu .cmp d8 s)

/-- R103, 0x07: RLC. -/
def execRlc (s : State) : Answer := .next (State.rotateLeft s)

/-- R104, 0x0F: RRC. -/
def execRrc (s : State) : Answer := .next (State.rotateRight s)

/-- R105, 0x17: RAL. -/
def execRal (s : State) : Answer := .next (State.rotateLeftCarry s)

/-- R106, 0x1F: RAR. -/
def execRar (s : State) : Answer := .next (State.rotateRightCarry s)

/-- R107, 0x2F: CMA. -/
def execCma (s : State) : Answer := .next (State.complementA s)

/-- R108, 0x3F: CMC. -/
def execCmc (s : State) : Answer := .next (State.complementCarry s)

/-- R109, 0x37: STC. -/
def execStc (s : State) : Answer := .next (State.setCarry s)

end Sys2Proof.Machine
end

