-- ==== Sys2Proof/Machine/Branch.lean ====
section
/-! DEFINITION. Jumps, calls, returns, restarts (43_branch.md, R113 to R144). None writes a flag. pc already holds the address
of the next instruction (R58), so it is the return address, and a branch not taken leaves it alone. -/

namespace Sys2Proof.Machine

/-- JMP (R113). -/
def State.jump (a16 : Word) (s : State) : State := { s with pc := a16 }

/-- Jcc (R114). -/
def State.jumpIf (cond : Cond) (a16 : Word) (s : State) : State := if condHolds cond s.flags then s.jump a16 else s

/-- CALL (R123). -/
def State.call (a16 : Word) (s : State) : State := { s.push16 s.pc with pc := a16 }

/-- Ccc (R124). -/
def State.callIf (cond : Cond) (a16 : Word) (s : State) : State := if condHolds cond s.flags then s.call a16 else s

/-- RET (R133). -/
def State.ret (s : State) : State := { s.drop16 with pc := s.top16 }

/-- Rcc (R134). -/
def State.retIf (cond : Cond) (s : State) : State := if condHolds cond s.flags then s.ret else s

/-- RST n (R143): a call of 8 × n. -/
def State.restart (n : Fin 8) (s : State) : State := s.call (BitVec.ofNat 16 (8 * n.val))

/-- PCHL (R144). -/
def State.jumpHL (s : State) : State := { s with pc := s.hl }

/-! ## One meaning per row -/

/-- R113, 0xC3: JMP a16. -/
def execJmp (a16 : Word) (s : State) : Answer := .next (State.jump a16 s)

/-- R115, 0xC2: JNZ a16. -/
def execJnz (a16 : Word) (s : State) : Answer := .next (State.jumpIf .nz a16 s)

/-- R116, 0xCA: JZ a16. -/
def execJz (a16 : Word) (s : State) : Answer := .next (State.jumpIf .z a16 s)

/-- R117, 0xD2: JNC a16. -/
def execJnc (a16 : Word) (s : State) : Answer := .next (State.jumpIf .nc a16 s)

/-- R118, 0xDA: JC a16. -/
def execJc (a16 : Word) (s : State) : Answer := .next (State.jumpIf .c a16 s)

/-- R119, 0xE2: JPO a16. -/
def execJpo (a16 : Word) (s : State) : Answer := .next (State.jumpIf .po a16 s)

/-- R120, 0xEA: JPE a16. -/
def execJpe (a16 : Word) (s : State) : Answer := .next (State.jumpIf .pe a16 s)

/-- R121, 0xF2: JP a16. -/
def execJp (a16 : Word) (s : State) : Answer := .next (State.jumpIf .p a16 s)

/-- R122, 0xFA: JM a16. -/
def execJm (a16 : Word) (s : State) : Answer := .next (State.jumpIf .m a16 s)

/-- R123, 0xCD: CALL a16. -/
def execCall (a16 : Word) (s : State) : Answer := .next (State.call a16 s)

/-- R125, 0xC4: CNZ a16. -/
def execCnz (a16 : Word) (s : State) : Answer := .next (State.callIf .nz a16 s)

/-- R126, 0xCC: CZ a16. -/
def execCz (a16 : Word) (s : State) : Answer := .next (State.callIf .z a16 s)

/-- R127, 0xD4: CNC a16. -/
def execCnc (a16 : Word) (s : State) : Answer := .next (State.callIf .nc a16 s)

/-- R128, 0xDC: CC a16. -/
def execCc (a16 : Word) (s : State) : Answer := .next (State.callIf .c a16 s)

/-- R129, 0xE4: CPO a16. -/
def execCpo (a16 : Word) (s : State) : Answer := .next (State.callIf .po a16 s)

/-- R130, 0xEC: CPE a16. -/
def execCpe (a16 : Word) (s : State) : Answer := .next (State.callIf .pe a16 s)

/-- R131, 0xF4: CP a16. -/
def execCp (a16 : Word) (s : State) : Answer := .next (State.callIf .p a16 s)

/-- R132, 0xFC: CM a16. -/
def execCm (a16 : Word) (s : State) : Answer := .next (State.callIf .m a16 s)

/-- R133, 0xC9: RET. -/
def execRet (s : State) : Answer := .next (State.ret s)

/-- R135, 0xC0: RNZ. -/
def execRnz (s : State) : Answer := .next (State.retIf .nz s)

/-- R136, 0xC8: RZ. -/
def execRz (s : State) : Answer := .next (State.retIf .z s)

/-- R137, 0xD0: RNC. -/
def execRnc (s : State) : Answer := .next (State.retIf .nc s)

/-- R138, 0xD8: RC. -/
def execRc (s : State) : Answer := .next (State.retIf .c s)

/-- R139, 0xE0: RPO. -/
def execRpo (s : State) : Answer := .next (State.retIf .po s)

/-- R140, 0xE8: RPE. -/
def execRpe (s : State) : Answer := .next (State.retIf .pe s)

/-- R141, 0xF0: RP. -/
def execRp (s : State) : Answer := .next (State.retIf .p s)

/-- R142, 0xF8: RM. -/
def execRm (s : State) : Answer := .next (State.retIf .m s)

/-- R143, 0xC7: RST 0. -/
def execRst0 (s : State) : Answer := .next (State.restart 0 s)

/-- R143, 0xCF: RST 1. -/
def execRst1 (s : State) : Answer := .next (State.restart 1 s)

/-- R143, 0xD7: RST 2. -/
def execRst2 (s : State) : Answer := .next (State.restart 2 s)

/-- R143, 0xDF: RST 3. -/
def execRst3 (s : State) : Answer := .next (State.restart 3 s)

/-- R143, 0xE7: RST 4. -/
def execRst4 (s : State) : Answer := .next (State.restart 4 s)

/-- R143, 0xEF: RST 5. -/
def execRst5 (s : State) : Answer := .next (State.restart 5 s)

/-- R143, 0xF7: RST 6. -/
def execRst6 (s : State) : Answer := .next (State.restart 6 s)

/-- R143, 0xFF: RST 7. -/
def execRst7 (s : State) : Answer := .next (State.restart 7 s)

/-- R144, 0xE9: PCHL. -/
def execPchl (s : State) : Answer := .next (State.jumpHL s)

end Sys2Proof.Machine
end

