-- ==== Sys2Proof/Machine/StackIoControl.lean ====
section
/-! DEFINITION. Stack, I/O and control instructions and the undocumented bytes (44_stack_io_control.md, R145 to R161). Only
POP PSW writes a flag. -/

namespace Sys2Proof.Machine

/-- PUSH (R145, R146). -/
def State.pushPair (p : StackPair) (s : State) : State := s.push16 (s.stackPair p)

/-- POP (R147, R148). -/
def State.popPair (p : StackPair) (s : State) : State := s.drop16.setStackPair p s.top16

/-- XTHL (R149): both bytes are read before either is written; sp stays. -/
def State.exchangeTop (s : State) : State := (s.memWrite16 s.sp s.hl).setHL s.top16

/-- SPHL (R150). -/
def State.loadSP (s : State) : State := { s with sp := s.hl }

/-- IN (R151). -/
def State.input (port : Byte) (s : State) : State := s.portRead port

/-- OUT (R152). -/
def State.output (port : Byte) (s : State) : State := s.portWrite port

/-- EI (R155): at once. -/
def State.enableInterrupts (s : State) : State := { s with ie := true }

/-- DI (R156). -/
def State.disableInterrupts (s : State) : State := { s with ie := false }

/-- HLT (R157): the latch is also the step's halt signal (assumption 11). -/
def State.halt (s : State) : State := { s with halted := true }

/-- 0xCB (R161): JMP where the byte carries an address (`UNDOC_ALIAS = chip`), NOP where it does not (`nop`). -/
def State.undocJump (a16 : Option Word) (s : State) : State :=
  match a16 with
  | none => s
  | some a => s.jump a

/-- 0xD9 (R161): RET under `chip`, NOP under `nop`. -/
def State.undocReturn (s : State) : State := s.cfg.undocAlias.pick s s.ret

/-- 0xDD, 0xED, 0xFD (R161): CALL where the byte carries an address (`chip`), NOP where it does not (`nop`). -/
def State.undocCall (a16 : Option Word) (s : State) : State :=
  match a16 with
  | none => s
  | some a => s.call a

/-! ## One meaning per row -/

/-- R145, 0xC5: PUSH B. -/
def execPushB (s : State) : Answer := .next (State.pushPair .bc s)

/-- R145, 0xD5: PUSH D. -/
def execPushD (s : State) : Answer := .next (State.pushPair .de s)

/-- R145, 0xE5: PUSH H. -/
def execPushH (s : State) : Answer := .next (State.pushPair .hl s)

/-- R146, 0xF5: PUSH PSW. -/
def execPushPsw (s : State) : Answer := .next (State.pushPair .psw s)

/-- R147, 0xC1: POP B. -/
def execPopB (s : State) : Answer := .next (State.popPair .bc s)

/-- R147, 0xD1: POP D. -/
def execPopD (s : State) : Answer := .next (State.popPair .de s)

/-- R147, 0xE1: POP H. -/
def execPopH (s : State) : Answer := .next (State.popPair .hl s)

/-- R148, 0xF1: POP PSW. -/
def execPopPsw (s : State) : Answer := .next (State.popPair .psw s)

/-- R149, 0xE3: XTHL. -/
def execXthl (s : State) : Answer := .next (State.exchangeTop s)

/-- R150, 0xF9: SPHL. -/
def execSphl (s : State) : Answer := .next (State.loadSP s)

/-- R151, 0xDB: IN d8. -/
def execInp (d8 : Byte) (s : State) : Answer := .next (State.input d8 s)

/-- R152, 0xD3: OUT d8. -/
def execOutp (d8 : Byte) (s : State) : Answer := .next (State.output d8 s)

/-- R155, 0xFB: EI. -/
def execEi (s : State) : Answer := .next (State.enableInterrupts s)

/-- R156, 0xF3: DI. -/
def execDi (s : State) : Answer := .next (State.disableInterrupts s)

/-- R157, 0x76: HLT. -/
def execHlt (s : State) : Answer := .next (State.halt s)

/-- R159, 0x00: NOP. -/
def execNop (s : State) : Answer := .next s

/-- R160, 0x08: undocumented NOP. -/
def execNop08 (s : State) : Answer := .next s

/-- R160, 0x10: undocumented NOP. -/
def execNop10 (s : State) : Answer := .next s

/-- R160, 0x18: undocumented NOP. -/
def execNop18 (s : State) : Answer := .next s

/-- R160, 0x20: undocumented NOP. -/
def execNop20 (s : State) : Answer := .next s

/-- R160, 0x28: undocumented NOP. -/
def execNop28 (s : State) : Answer := .next s

/-- R160, 0x30: undocumented NOP. -/
def execNop30 (s : State) : Answer := .next s

/-- R160, 0x38: undocumented NOP. -/
def execNop38 (s : State) : Answer := .next s

/-- R161, 0xCB: undocumented JMP. -/
def execUndocCB (a16 : Option Word) (s : State) : Answer := .next (State.undocJump a16 s)

/-- R161, 0xD9: undocumented RET. -/
def execUndocD9 (s : State) : Answer := .next (State.undocReturn s)

/-- R161, 0xDD: undocumented CALL. -/
def execUndocDD (a16 : Option Word) (s : State) : Answer := .next (State.undocCall a16 s)

/-- R161, 0xED: undocumented CALL. -/
def execUndocED (a16 : Option Word) (s : State) : Answer := .next (State.undocCall a16 s)

/-- R161, 0xFD: undocumented CALL. -/
def execUndocFD (a16 : Option Word) (s : State) : Answer := .next (State.undocCall a16 s)

end Sys2Proof.Machine
end

