-- ==== Sys2Proof/Machine/Fetch.lean ====
section
/-! DEFINITION. What the step does around the execute phase (R58): reading the instruction at pc, and writing `last_cycles` after
it; and how a word is placed where the next step reads it. -/

namespace Sys2Proof.Machine

/-- `Fetch8()` (R10): the byte at pc, and pc one further, with wrap. -/
def State.fetch8 (s : State) : Byte × State := (s.memRead s.pc, { s with pc := s.pc + 1 })

/-- `Fetch16()` (R10): low byte first. -/
def State.fetch16 (s : State) : Word × State :=
  let lo := s.fetch8
  let hi := lo.2.fetch8
  (cat hi.1 lo.1, hi.2)

/-- The instruction at pc and the state with pc past it: the opcode byte, then as many operand bytes as its length asks for
(R58), all before the instruction writes anything (R44). -/
def State.fetchInstr (s : State) : Instr × State :=
  let op := s.fetch8
  match opcodeLength s.cfg.undocAlias op.1 with
  | 3 => let d16 := op.2.fetch16; (opcodeMap s.cfg.undocAlias 0 d16.1 op.1, d16.2)
  | 2 => let d8 := op.2.fetch8; (opcodeMap s.cfg.undocAlias d8.1 0 op.1, d8.2)
  | _ => (opcodeMap s.cfg.undocAlias 0 0 op.1, op.2)

/-- The host's part between two steps: it decides whether the next step has a handler (R182), a free value of each step
(assumption 4). -/
def State.hostTurn (s : State) : State :=
  let t := { s with draws := s.draws + 1 }
  { t with ioPresent := Config.ioPresent t t.draws }

/-- The end of a step: `last_cycles` takes the cost of the instruction (R57, R58). -/
def State.retire (i : Instr) (s : State) : State := { s with lastCycles := i.cycles s.cfg }.hostTurn

/-- A step ends where its execute phase answers a state; a stop is passed on. -/
def completeStep (i : Instr) (r : Answer) : Answer :=
  match r with
  | .next t => .next (t.retire i)
  | .fault f => .fault f
  | .refused q => .refused q

/-- The state with an instruction of spec/opcode_table.json, given as one number, in memory at pc, followed by zero bytes up
to the longest instruction's length: the memory load that puts a program there (R46; assumption 9). -/
def State.placeWord (s : State) (nbits w : Nat) : State := s.memWriteList s.pc (tableBytes nbits w)

end Sys2Proof.Machine
end

