-- ==== Sys2Proof/Machine/Step.lean ====
section
/-! DEFINITION. The step (R58): the core's main transition, and the placing of an instruction for the host. -/

namespace Sys2Proof.Machine

/-- One step: none while halted (R158); else fetch, execute, `last_cycles`. The halt signal of R58 is the `halted` bit of the
state it answers (assumption 11), and the I/O handler of R58 is `ioPresent` (assumption 4). -/
def step (s : State) : Host.Outcome State Fault Refusal :=
  if s.halted then .refused .stepWhileHalted
  else
    let f := s.fetchInstr
    completeStep f.1 (exec f.1 f.2)

/-- `s` with the instruction placed where `step` reads its next one. -/
def State.withFetchWord (s : State) (nbits w : Nat) : State := s.placeWord nbits w

end Sys2Proof.Machine
end

