-- ==== Sys2Proof/Machine/Driver.lean ====
section
/-! DEFINITION. The operations of the host (R2, R6, R182): a step with or without an I/O handler, interrupt entry, memory load.
They are performed one at a time (R166), each one indivisible transition (R39), so a run is a list of them
(assumption 7). What the spec calls a duty of the host is a refusal here (spec/93_implementation_defined.md). Introspection
(R30) reads a state and changes none: the fields of `State`, `State.bc`, `State.de`, `State.hl`, `State.flagByte`, `State.psw`, `State.memRead`. -/

namespace Sys2Proof.Machine

/-- `raise_interrupt(state, n)` (R164): admitted only between steps of a core that is not halted, with IE = 1 and n in 0..7
(R165, R167). -/
def raiseInterrupt (n : Nat) (s : State) : Answer :=
  if s.halted then .refused .interruptWhileHalted
  else if s.ie = false then .refused .interruptWhileDisabled
  else if 7 < n then .refused .vectorOutOfRange
  else .next (s.enterInterrupt n)

/-- The memory load (R46): only memory changes, and only where the buffer lies; it must end by 0xFFFF. -/
def load (offset : Word) (bytes : List Byte) (s : State) : Answer :=
  if s.halted then .refused .loadWhileHalted
  else if 65536 < offset.toNat + bytes.length then .refused .loadPastEnd
  else .next (s.memWriteList offset bytes)

/-- One operation the host asks for (R6). -/
inductive HostOp
  | step (ioPresent : Bool)
  | interrupt (n : Nat)
  | load (offset : Word) (bytes : List Byte)
  deriving DecidableEq, Repr

/-- The transition an operation asks for. -/
def hostStep (op : HostOp) (s : State) : Answer :=
  match op with
  | .step ioPresent => step { s with ioPresent := ioPresent }
  | .interrupt n => raiseInterrupt n s
  | .load offset bytes => load offset bytes s

/-- A run: the operations in the order the host performs them (R43), up to the first that has no transition. -/
def hostRun (ops : List HostOp) (s : State) : Answer :=
  match ops with
  | [] => .next s
  | op :: ops' =>
    match hostStep op s with
    | .next t => hostRun ops' t
    | .fault f => .fault f
    | .refused q => .refused q

end Sys2Proof.Machine
end

