-- ==== Sys2Proof/Safety.lean ====
section
/-! DEFINITION. The terms claims are stated in: the invariant of the state, what each form of instruction may write (R16, R18,
R22, R23, R38), and the flags of a result written as plain arithmetic on numbers. -/

namespace Sys2Proof

namespace Machine

/-! ## The invariant -/

/-- Memory is in its canonical form, and no step has made more than one I/O transaction (R153, R154). -/
abbrev State.Inv (s : State) : Prop := Memory.wf s.mem = true ∧ s.ioLog.length ≤ s.draws

/-- The values `last_cycles` can have after a step (R25). -/
def stepCosts : List Nat := [4, 5, 7, 10, 11, 13, 16, 17, 18]

/-- The `n` bytes of memory from `a` on, with wrap. -/
def State.bytesAt (s : State) (a : Word) (n : Nat) : List Byte :=
  (List.range n).map (fun k => s.memRead (a + BitVec.ofNat 16 k))

end Machine

open Machine

/-! ## The codes of the operands (R50 to R53) -/

/-- The 3-bit code of a register (R50). -/
def Reg.code (r : Reg) : Nat :=
  match r with
  | .b => 0
  | .c => 1
  | .d => 2
  | .e => 3
  | .h => 4
  | .l => 5
  | .a => 7

/-- The 3-bit code of an operand; M is 6 (R50). -/
def Opnd.code (o : Opnd) : Nat :=
  match o with
  | .reg r => r.code
  | .m => 6

/-- The 2-bit code of a pair of LXI, INX, DCX, DAD (R51). -/
def Pair.code (p : Pair) : Nat :=
  match p with
  | .bc => 0
  | .de => 1
  | .hl => 2
  | .sp => 3

/-- The 2-bit code of a pair of PUSH, POP (R51). -/
def StackPair.code (p : StackPair) : Nat :=
  match p with
  | .bc => 0
  | .de => 1
  | .hl => 2
  | .psw => 3

/-- The 2-bit code of a pair of LDAX, STAX (R51). -/
def IndPair.code (p : IndPair) : Nat :=
  match p with
  | .bc => 0
  | .de => 1

/-- The 3-bit code of a condition (R52). -/
def Cond.code (cond : Cond) : Nat :=
  match cond with
  | .nz => 0
  | .z => 1
  | .nc => 2
  | .c => 3
  | .po => 4
  | .pe => 5
  | .p => 6
  | .m => 7

/-- The 3-bit code of an accumulator operation (R53). -/
def AluOp.code (op : AluOp) : Nat :=
  match op with
  | .add => 0
  | .adc => 1
  | .sub => 2
  | .sbb => 3
  | .ana => 4
  | .xra => 5
  | .ora => 6
  | .cmp => 7

/-! ## What a form may write -/

/-- The registers of a pair; SP has none. -/
def Pair.regs (p : Pair) : List Reg :=
  match p with
  | .bc => [.b, .c]
  | .de => [.d, .e]
  | .hl => [.h, .l]
  | .sp => []

/-- The registers a popped pair is put into. -/
def StackPair.regs (p : StackPair) : List Reg :=
  match p with
  | .bc => [.b, .c]
  | .de => [.d, .e]
  | .hl => [.h, .l]
  | .psw => [.a]

/-- The register an operand is; M is none. -/
def Opnd.regs (o : Opnd) : List Reg :=
  match o with
  | .reg r => [r]
  | .m => []

/-- The general registers a form may write (R16). -/
def Form.regWrites (f : Form) : List Reg :=
  match f with
  | .movRR dst _ | .movRM dst | .mviR dst _ => [dst]
  | .inr dst | .dcr dst => dst.regs
  | .lxi p _ | .inx p | .dcx p => p.regs
  | .lda _ | .ldax _ | .inp _ | .daa | .rlc | .rrc | .ral | .rar | .cma => [.a]
  | .alu op _ | .aluImm op _ => if op = .cmp then [] else [.a]
  | .lhld _ | .dad _ | .xthl => [.h, .l]
  | .xchg => [.d, .e, .h, .l]
  | .pop p => p.regs
  | .nop | .nopAlias _ | .movMR _ | .mviM _ | .sta _ | .shld _ | .stax _ | .cmc | .stc | .jmp _ | .jcc _ _
  | .call _ | .ccc _ _ | .ret | .rcc _ | .rst _ | .pchl | .push _ | .sphl | .outp _ | .ei | .di | .hlt
  | .undocJmp _ | .undocRet | .undocCall _ _ => []

/-- No flag. -/
def Machine.Flags.none : Flags := { s := false, z := false, ac := false, p := false, cy := false }

/-- The flags a pop may write: all for PSW. -/
def StackPair.flagWrites (p : StackPair) : Flags :=
  match p with
  | .bc | .de | .hl => Flags.none
  | .psw => { s := true, z := true, ac := true, p := true, cy := true }

/-- The flags a form may write, each `true` where it may (the table of R22). -/
def Form.flagWrites (f : Form) : Flags :=
  match f with
  | .alu _ _ | .aluImm _ _ | .daa => { s := true, z := true, ac := true, p := true, cy := true }
  | .inr _ | .dcr _ => { s := true, z := true, ac := true, p := true, cy := false }
  | .dad _ | .rlc | .rrc | .ral | .rar | .cmc | .stc => { s := false, z := false, ac := false, p := false, cy := true }
  | .pop p => p.flagWrites
  | .nop | .nopAlias _ | .movRR _ _ | .movRM _ | .movMR _ | .mviR _ _ | .mviM _ | .lxi _ _ | .lda _ | .sta _
  | .lhld _ | .shld _ | .ldax _ | .stax _ | .xchg | .inx _ | .dcx _ | .cma | .jmp _ | .jcc _ _ | .call _
  | .ccc _ _ | .ret | .rcc _ | .rst _ | .pchl | .push _ | .xthl | .sphl | .inp _ | .outp _ | .ei | .di | .hlt
  | .undocJmp _ | .undocRet | .undocCall _ _ => Flags.none

/-- Whether a form may write sp (R23). -/
def Form.spWrites (f : Form) : Bool :=
  match f with
  | .lxi p _ | .inx p | .dcx p => p == .sp
  | .sphl | .push _ | .pop _ => true
  | .call _ | .ccc _ _ | .ret | .rcc _ | .rst _ | .undocRet => true
  | .undocCall _ a16 => a16.isSome
  | .nop | .nopAlias _ | .movRR _ _ | .movRM _ | .movMR _ | .mviR _ _ | .mviM _ | .lda _ | .sta _ | .lhld _
  | .shld _ | .ldax _ | .stax _ | .xchg | .alu _ _ | .aluImm _ _ | .inr _ | .dcr _ | .dad _ | .daa | .rlc
  | .rrc | .ral | .rar | .cma | .cmc | .stc | .jmp _ | .jcc _ _ | .pchl | .xthl | .inp _ | .outp _ | .ei
  | .di | .hlt | .undocJmp _ => false

/-- Whether a form may put pc elsewhere than at the next instruction (R18). -/
def Form.pcWrites (f : Form) : Bool :=
  match f with
  | .jmp _ | .jcc _ _ | .call _ | .ccc _ _ | .ret | .rcc _ | .rst _ | .pchl => true
  | .undocRet => true
  | .undocJmp a16 | .undocCall _ a16 => a16.isSome
  | .nop | .nopAlias _ | .movRR _ _ | .movRM _ | .movMR _ | .mviR _ _ | .mviM _ | .lxi _ _ | .lda _ | .sta _
  | .lhld _ | .shld _ | .ldax _ | .stax _ | .xchg | .alu _ _ | .aluImm _ _ | .inr _ | .dcr _ | .inx _
  | .dcx _ | .dad _ | .daa | .rlc | .rrc | .ral | .rar | .cma | .cmc | .stc | .push _ | .pop _ | .xthl
  | .sphl | .inp _ | .outp _ | .ei | .di | .hlt => false

/-- The address an operand is stored to: HL for M, none for a register. -/
def Opnd.stores (o : Opnd) (s : State) : List Word :=
  match o with
  | .reg _ => []
  | .m => [s.hl]

/-- The two addresses a push stores to. -/
def Machine.State.pushSlots (s : State) : List Word := [s.sp - 1, s.sp - 2]

/-- The addresses a form stores to in the state it executes in (R38), with the functions the meanings use for them. -/
def Form.stores (f : Form) (s : State) : List Word :=
  match f with
  | .movMR _ | .mviM _ => [s.hl]
  | .inr dst | .dcr dst => dst.stores s
  | .sta a16 => [a16]
  | .stax p => [s.indirect p]
  | .shld a16 => [a16, a16 + 1]
  | .push _ | .call _ | .rst _ => s.pushSlots
  | .ccc cond _ => if condHolds cond s.flags then s.pushSlots else []
  | .undocCall _ a16 => if a16.isSome then s.pushSlots else []
  | .xthl => [s.sp, s.sp + 1]
  | .nop | .nopAlias _ | .movRR _ _ | .movRM _ | .mviR _ _ | .lxi _ _ | .lda _ | .lhld _ | .ldax _ | .xchg
  | .alu _ _ | .aluImm _ _ | .inx _ | .dcx _ | .dad _ | .daa | .rlc | .rrc | .ral | .rar | .cma | .cmc | .stc
  | .jmp _ | .jcc _ _ | .ret | .rcc _ | .pchl | .pop _ | .sphl | .inp _ | .outp _ | .ei | .di | .hlt
  | .undocJmp _ | .undocRet => []

namespace Machine

/-! ## Flags as arithmetic -/

/-- Whether a byte has an even number of 1 bits (R77), bit by bit. -/
def evenOnes (r : Byte) : Bool :=
  !(r.getLsbD 0 ^^ r.getLsbD 1 ^^ r.getLsbD 2 ^^ r.getLsbD 3 ^^ r.getLsbD 4 ^^ r.getLsbD 5 ^^ r.getLsbD 6 ^^ r.getLsbD 7)

/-- S, Z and P of the byte `r` (R77) beside a given AC and CY. -/
def resultFlags (r : Byte) (ac cy : Bool) : Flags :=
  { s := decide (128 ≤ r.toNat), z := decide (r.toNat = 0), ac := ac, p := evenOnes r, cy := cy }

/-- The byte and the flags of the sum `a + b + c` of two bytes and a carry (R78): CY is the carry out of bit 7, AC the carry out
of bit 3. -/
def sumResult (a b c : Nat) : Byte × Flags :=
  (BitVec.ofNat 8 (a + b + c),
    resultFlags (BitVec.ofNat 8 (a + b + c)) (decide (16 ≤ a % 16 + b % 16 + c)) (decide (256 ≤ a + b + c)))

/-- The byte and the flags of the difference `a - b - c` of two bytes and a borrow (R79): CY is the borrow, AC is 1 exactly
when no borrow leaves the low digit. -/
def differenceResult (a b c : Nat) : Byte × Flags :=
  (BitVec.ofNat 8 (a + 512 - b - c),
    resultFlags (BitVec.ofNat 8 (a + 512 - b - c)) (decide (b % 16 + c ≤ a % 16)) (decide (a < b + c)))

/-- `A` and the flags after an accumulator operation. -/
def State.withResult (s : State) (o : Byte × Flags) : State := { s.setReg .a o.1 with flags := o.2 }

/-! ## Decimal numbers -/

/-- A byte of two decimal digits. -/
def isBcd (v : Byte) : Bool := decide (v.toNat % 16 ≤ 9) && decide (v.toNat / 16 ≤ 9)

/-- The number a byte of two decimal digits stands for. -/
def bcdValue (v : Byte) : Nat := 10 * (v.toNat / 16) + v.toNat % 16

end Machine

end Sys2Proof
end

