-- ==== Sys2Proof/Certificates/Slice0/Obligations.lean ====
section
/-! DEFINITION. The statements for the provers. Each docstring names the rules it formalises and the rows it speaks of. A row of
a rule is written `Form.instr`, so one statement holds for all the rows of a rule. In every statement about `exec` pc already
holds the address of the next instruction (R11, R58). -/

open Sys2Proof Sys2Proof.Machine

/-! ## Encoding -/

/-- Words written out from R49 to R56 decode to what they stand for: at least one for each section file, and 0xCB under both
settings. -/
def Obligations.SampleWordsDecode : Prop :=
  decode .nop [0x3E, 0x05, 0x76] = .instr (.mviA 0x05) [0x76] ∧
  decode .nop [0b01000001] = .instr .movBC [] ∧
  decode .nop [0b00100001, 0x34, 0x12] = .instr (.lxiH 0x1234) [] ∧
  decode .nop [0b10011110] = .instr .sbbM [] ∧
  decode .nop [0b00111001] = .instr .dadSp [] ∧
  decode .nop [0b11100110, 0x0F] = .instr (.ani 0x0F) [] ∧
  decode .nop [0b11000010, 0x00, 0x03] = .instr (.jnz 0x0300) [] ∧
  decode .nop [0b11001111] = .instr .rst1 [] ∧
  decode .nop [0b11110101] = .instr .pushPsw [] ∧
  decode .nop [0b11011011, 0x01] = .instr (.inp 0x01) [] ∧
  decode .nop [0b01110110] = .instr .hlt [] ∧
  decode .nop [0xCB, 0x00, 0x10] = .instr (.undocCB none) [0x00, 0x10] ∧
  decode .chip [0xCB, 0x00, 0x10] = .instr (.undocCB (some 0x1000)) []

/-- Decoding the bytes of any well-formed instruction, whatever follows them, gives that instruction back, with every operand at
every value, under both settings of `UNDOC_ALIAS` (R49, R54 to R56, R161). Which instructions are well formed is the model's choice
(assumption 13). -/
def Obligations.DecodeGivesBackEncoded : Prop :=
  ∀ (u : UndocAlias) (i : Instr) (rest : List Byte), i.wellFormed u = true → decode u (encode i ++ rest) = .instr i rest

/-- Whatever a list of bytes decodes to is well formed (assumption 13) and encodes to the bytes that were read (R49, R55, R56). -/
def Obligations.EncodeGivesBackDecoded : Prop :=
  ∀ (u : UndocAlias) (bytes rest : List Byte) (i : Instr), decode u bytes = .instr i rest →
    i.wellFormed u = true ∧ bytes = encode i ++ rest

/-- Every opcode byte followed by two more bytes decodes, to an instruction of one to three bytes with a cost above 0 (R59, R56,
test S11). -/
def Obligations.EveryOpcodeDecodes : Prop :=
  ∀ (p : Params) (op b1 b2 : Byte) (rest : List Byte), ∃ i : Instr,
    decode p.undocAlias (op :: b1 :: b2 :: rest) = .instr i ((op :: b1 :: b2 :: rest).drop i.length) ∧
    i.opcode = op ∧ 1 ≤ i.length ∧ i.length ≤ 3 ∧ 0 < i.cycles p

/-- The opcode byte of every row: in a group it is the one that the codes of the operands give (R49 to R53), and every other row has
the one its rule names (R55, R70 to R73, R76, R93, R103 to R109, R113, R123, R133, R144, R149 to R161). The spec supplies the map and
the codes from general knowledge (D1, D5, D17, assumption 12). -/
def Obligations.OpcodesHaveTheirFieldCodes : Prop :=
  (∀ dst src, (Form.movRR dst src).instr.opcode.toNat = 64 + 8 * dst.code + src.code) ∧
  (∀ dst, (Form.movRM dst).instr.opcode.toNat = 64 + 8 * dst.code + 6) ∧
  (∀ src, (Form.movMR src).instr.opcode.toNat = 64 + 8 * 6 + src.code) ∧
  (∀ dst d8, (Form.mviR dst d8).instr.opcode.toNat = 8 * dst.code + 6) ∧
  (∀ d8, (Form.mviM d8).instr.opcode.toNat = 8 * 6 + 6) ∧
  (∀ dst, (Form.inr dst).instr.opcode.toNat = 8 * dst.code + 4) ∧
  (∀ dst, (Form.dcr dst).instr.opcode.toNat = 8 * dst.code + 5) ∧
  (∀ p d16, (Form.lxi p d16).instr.opcode.toNat = 16 * p.code + 1) ∧
  (∀ p, (Form.inx p).instr.opcode.toNat = 16 * p.code + 3) ∧
  (∀ p, (Form.dad p).instr.opcode.toNat = 16 * p.code + 9) ∧
  (∀ p, (Form.dcx p).instr.opcode.toNat = 16 * p.code + 11) ∧
  (∀ p, (Form.stax p).instr.opcode.toNat = 16 * p.code + 2) ∧
  (∀ p, (Form.ldax p).instr.opcode.toNat = 16 * p.code + 10) ∧
  (∀ op src, (Form.alu op src).instr.opcode.toNat = 128 + 8 * op.code + src.code) ∧
  (∀ op d8, (Form.aluImm op d8).instr.opcode.toNat = 192 + 8 * op.code + 6) ∧
  (∀ cond, (Form.rcc cond).instr.opcode.toNat = 192 + 8 * cond.code) ∧
  (∀ cond a16, (Form.jcc cond a16).instr.opcode.toNat = 192 + 8 * cond.code + 2) ∧
  (∀ cond a16, (Form.ccc cond a16).instr.opcode.toNat = 192 + 8 * cond.code + 4) ∧
  (∀ n : Fin 8, (Form.rst n).instr.opcode.toNat = 192 + 8 * n.val + 7) ∧
  (∀ p, (Form.pop p).instr.opcode.toNat = 192 + 16 * p.code + 1) ∧
  (∀ p, (Form.push p).instr.opcode.toNat = 192 + 16 * p.code + 5) ∧
  (∀ n : Fin 7, (Form.nopAlias n).instr.opcode.toNat = 8 * (n.val + 1)) ∧
  Instr.nop.opcode = 0x00 ∧ Instr.xchg.opcode = 0xEB ∧
  (∀ a16, (Instr.shld a16).opcode = 0x22 ∧ (Instr.lhld a16).opcode = 0x2A ∧ (Instr.sta a16).opcode = 0x32 ∧
    (Instr.lda a16).opcode = 0x3A ∧ (Instr.jmp a16).opcode = 0xC3 ∧ (Instr.call a16).opcode = 0xCD) ∧
  Instr.rlc.opcode = 0x07 ∧ Instr.rrc.opcode = 0x0F ∧ Instr.ral.opcode = 0x17 ∧ Instr.rar.opcode = 0x1F ∧
  Instr.daa.opcode = 0x27 ∧ Instr.cma.opcode = 0x2F ∧ Instr.stc.opcode = 0x37 ∧ Instr.cmc.opcode = 0x3F ∧
  Instr.ret.opcode = 0xC9 ∧ Instr.pchl.opcode = 0xE9 ∧ Instr.xthl.opcode = 0xE3 ∧ Instr.sphl.opcode = 0xF9 ∧
  (∀ d8, (Instr.outp d8).opcode = 0xD3 ∧ (Instr.inp d8).opcode = 0xDB) ∧
  Instr.di.opcode = 0xF3 ∧ Instr.ei.opcode = 0xFB ∧ Instr.hlt.opcode = 0x76 ∧
  (∀ a16, (Instr.undocCB a16).opcode = 0xCB ∧ (Instr.undocDD a16).opcode = 0xDD ∧ (Instr.undocED a16).opcode = 0xED ∧
    (Instr.undocFD a16).opcode = 0xFD) ∧
  Instr.undocD9.opcode = 0xD9

/-- The cost of every form under every setting of the parameters: the table of R57. The figures are the spec's from general
knowledge (assumption 12). -/
def Obligations.CostsOfTheTable : Prop :=
  ∀ p : Params,
  (Form.nop.instr.cycles p = 4 ∧ ∀ n, (Form.nopAlias n).instr.cycles p = 4) ∧
  (∀ dst src, (Form.movRR dst src).instr.cycles p = 5) ∧
  (∀ dst, (Form.movRM dst).instr.cycles p = 7) ∧ (∀ src, (Form.movMR src).instr.cycles p = 7) ∧
  (∀ dst d8, (Form.mviR dst d8).instr.cycles p = 7) ∧ (∀ d8, (Form.mviM d8).instr.cycles p = 10) ∧
  (∀ q d16, (Form.lxi q d16).instr.cycles p = 10) ∧
  (∀ a, (Form.lda a).instr.cycles p = 13 ∧ (Form.sta a).instr.cycles p = 13) ∧
  (∀ a, (Form.lhld a).instr.cycles p = 16 ∧ (Form.shld a).instr.cycles p = 16) ∧
  (∀ q, (Form.ldax q).instr.cycles p = 7 ∧ (Form.stax q).instr.cycles p = 7) ∧
  Form.xchg.instr.cycles p = 4 ∧
  (∀ op r, (Form.alu op (.reg r)).instr.cycles p = 4) ∧ (∀ op, (Form.alu op .m).instr.cycles p = 7) ∧
  (∀ op d8, (Form.aluImm op d8).instr.cycles p = 7) ∧
  (∀ r, (Form.inr (.reg r)).instr.cycles p = 5 ∧ (Form.dcr (.reg r)).instr.cycles p = 5) ∧
  ((Form.inr .m).instr.cycles p = 10 ∧ (Form.dcr .m).instr.cycles p = 10) ∧
  (∀ q, (Form.inx q).instr.cycles p = 5 ∧ (Form.dcx q).instr.cycles p = 5) ∧
  (∀ q, (Form.dad q).instr.cycles p = 10) ∧
  (∀ f ∈ [Form.daa, .cma, .stc, .cmc, .rlc, .rrc, .ral, .rar], f.instr.cycles p = 4) ∧
  (∀ a, (Form.jmp a).instr.cycles p = 10) ∧ (∀ cond a, (Form.jcc cond a).instr.cycles p = 10) ∧
  (∀ a, (Form.call a).instr.cycles p = 17) ∧
  (∀ cond a, (Form.ccc cond a).instr.cycles p = if p.condCycles = .taken then 17 else 11) ∧
  Form.ret.instr.cycles p = 10 ∧
  (∀ cond, (Form.rcc cond).instr.cycles p = if p.condCycles = .taken then 11 else 5) ∧
  (∀ n, (Form.rst n).instr.cycles p = 11) ∧
  (Form.pchl.instr.cycles p = 5 ∧ Form.sphl.instr.cycles p = 5) ∧
  (∀ q, (Form.push q).instr.cycles p = 11 ∧ (Form.pop q).instr.cycles p = 10) ∧
  Form.xthl.instr.cycles p = 18 ∧
  (∀ n, (Form.inp n).instr.cycles p = 10 ∧ (Form.outp n).instr.cycles p = 10) ∧
  (Form.ei.instr.cycles p = 4 ∧ Form.di.instr.cycles p = 4) ∧
  Form.hlt.instr.cycles p = 7 ∧
  (∀ a, (Form.undocJmp a).instr.cycles p = if p.undocAlias = .chip then 10 else 4) ∧
  (Form.undocRet.instr.cycles p = if p.undocAlias = .chip then 10 else 4) ∧
  (∀ k a, (Form.undocCall k a).instr.cycles p = if p.undocAlias = .chip then 17 else 4)

/-! ## The step -/

/-- Where the bytes at pc are those of a well-formed instruction and the core is not halted, the step is that instruction's
execute phase with pc past its bytes, then `last_cycles`, the step counter and the host's choice of a handler for the next step
(R18, R58; that choice and the counter are the model's, assumptions 4 and 6). -/
def Obligations.StepRunsTheDecodedInstruction : Prop :=
  ∀ (s : State) (i : Instr), s.halted = false → i.wellFormed s.cfg.undocAlias = true →
    s.bytesAt s.pc i.length = encode i →
    ∃ t : State, exec i { s with pc := s.pc + BitVec.ofNat 16 i.length } = .next t ∧
      step s = .next (t.retire i) ∧
      t.retire i = { t with lastCycles := i.cycles s.cfg, draws := s.draws + 1, ioPresent := (t.retire i).ioPresent }

/-- Every state has an instruction at pc: the fetch answers a well-formed one whose bytes stand there, and moves pc by its
length and nothing else (R18, R36, R58, R59). Which instructions are well formed is the model's choice (assumption 13). -/
def Obligations.EveryFetchIsAnInstruction : Prop :=
  ∀ s : State, s.fetchInstr.1.wellFormed s.cfg.undocAlias = true ∧
    s.bytesAt s.pc s.fetchInstr.1.length = encode s.fetchInstr.1 ∧
    s.fetchInstr.2 = { s with pc := s.pc + BitVec.ofNat 16 s.fetchInstr.1.length }

/-- A core that is not halted always answers a next state: no step faults and no step is refused (R162, R59). -/
def Obligations.StepAlwaysAnswers : Prop :=
  ∀ s : State, s.halted = false → ∃ t : State, step s = .next t

/-- While `halted` is set no operation of the host has a transition, and the step says so by name (R158, R167 b, R181; that a
load is refused too is the model's reading, assumption 8). -/
def Obligations.HaltedCoreHasNoTransition : Prop :=
  ∀ (op : HostOp) (s : State), s.halted = true →
    (∃ q : Refusal, hostStep op s = .refused q) ∧ step s = .refused .stepWhileHalted

/-- After a step `last_cycles` is one of the nine costs of the table (R25, R57). The figures are the spec's decision D6, from general
knowledge (assumption 12). -/
def Obligations.LastCyclesIsACostOfTheTable : Prop :=
  ∀ s t : State, step s = .next t → t.lastCycles ∈ [4, 5, 7, 10, 11, 13, 16, 17, 18]

/-! ## Construction and the invariant -/

/-- The state at construction (R178): memory all 0x00, pc 0, not halted, and the values of `INIT` elsewhere. That pc is 0 and
that the core is not halted are inferences the spec marks as its own (R17, R26). The parameters and the handler's
presence stand in the state by the model's choice (assumptions 2 and 4). -/
def Obligations.ConstructionState : Prop :=
  ∀ (init : Init) (cfg : Params) (io : Bool),
    (∀ a : Word, (State.construct init cfg io).memRead a = 0x00) ∧
    (State.construct init cfg io).pc = 0x0000 ∧
    (State.construct init cfg io).halted = false ∧
    (State.construct init cfg io).regs = init.regs ∧
    (State.construct init cfg io).sp = init.sp ∧
    (State.construct init cfg io).flags = init.flags ∧
    (State.construct init cfg io).ie = init.ie ∧
    (State.construct init cfg io).lastCycles = init.lastCycles

/-- Every state at construction, `State.reset` among them, meets the invariant. Both halves of the invariant are about the model's own
choices: the canonical form of the memory list (assumption 10), and the log of the I/O transactions beside the step counter
(assumption 6). `State.reset` holds the choices of assumptions 1, 3 and 4. -/
def Obligations.ConstructionMeetsInvariant : Prop :=
  (∀ (init : Init) (cfg : Params) (io : Bool), (State.construct init cfg io).Inv) ∧ State.reset.Inv

/-- A step keeps the invariant (the memory list stays in its one canonical form, with no address above 0xFFFF, and there are no more
I/O transactions in the log than steps were made), and adds at most one transaction to the log (at its end). The canonical form is the
model's choice (assumption 10), and so are the log and the step counter (assumption 6); that IN and OUT make one transaction each is
R153 and R154. -/
def Obligations.StepKeepsInvariant : Prop :=
  ∀ s t : State, s.Inv → step s = .next t →
    t.Inv ∧ (t.ioLog = s.ioLog ∨ ∃ e : IoEvent, t.ioLog = s.ioLog ++ [e])

/-- Every run of steps, interrupt entries and memory loads keeps the invariant and the two parameters (R8, R46, R164, R181). The
invariant is about the model's own choices, the canonical form of the memory list (assumption 10) and the log and the step counter
(assumption 6); that the parameters stand in the state is one too (assumption 2), and that entry and load are operations beside the
step is the model's reading (assumption 7). -/
def Obligations.EveryRunKeepsInvariant : Prop :=
  ∀ (ops : List HostOp) (s t : State), s.Inv → hostRun ops s = .next t → t.Inv ∧ t.cfg = s.cfg

/-! ## Frames, over every instruction -/

/-- Every instruction answers a next state, and no execute phase writes `last_cycles`, the parameters, the step counter or the
host's choice of a handler (R162, R11, R58). The parameters, the counter and the choice are fields of the model's own (assumptions 2, 6
and 4); the rules speak of the completion and of `last_cycles`. -/
def Obligations.EveryInstructionCompletes : Prop :=
  ∀ (i : Instr) (s : State), ∃ t : State, exec i s = .next t ∧
    t.lastCycles = s.lastCycles ∧ t.cfg = s.cfg ∧ t.draws = s.draws ∧ t.ioPresent = s.ioPresent

/-- Every register outside the instruction's destinations is unchanged (R16; `Form.regWrites` is that rule's list). -/
def Obligations.RegisterFrame : Prop :=
  ∀ (i : Instr) (s t : State), exec i s = .next t → ∀ r : Reg, r ∉ i.form.regWrites → t.reg r = s.reg r

/-- Every flag outside the instruction's row of R22 is unchanged (`Form.flagWrites` is that table). -/
def Obligations.FlagFrame : Prop :=
  ∀ (i : Instr) (s t : State), exec i s = .next t →
    (i.form.flagWrites.s = false → t.flags.s = s.flags.s) ∧
    (i.form.flagWrites.z = false → t.flags.z = s.flags.z) ∧
    (i.form.flagWrites.ac = false → t.flags.ac = s.flags.ac) ∧
    (i.form.flagWrites.p = false → t.flags.p = s.flags.p) ∧
    (i.form.flagWrites.cy = false → t.flags.cy = s.flags.cy)

/-- Every byte outside the addresses an instruction stores to reads as before; `Form.stores` computes those addresses, from the
state the instruction executes in, with the functions the meanings use (R38). -/
def Obligations.MemoryFrame : Prop :=
  ∀ (i : Instr) (s t : State), exec i s = .next t → ∀ a : Word, a ∉ i.form.stores s → t.memRead a = s.memRead a

/-- Only the instructions R23 lists write sp (`Form.spWrites`), only EI and DI write IE, only HLT writes `halted`, only IN and OUT add
an I/O transaction, at most one, and only jumps, calls, returns, restarts, PCHL, 0xD9 and an undocumented byte with an address move pc
beyond the next instruction (R23, R24, R26, R18). The log is the model's own field, reads among its entries (assumption 6): to the
spec an OUT leaves no trace in the core (R28). -/
def Obligations.ControlFrame : Prop :=
  ∀ (i : Instr) (s t : State), exec i s = .next t →
    (i.form.spWrites = false → t.sp = s.sp) ∧
    (i ≠ .ei → i ≠ .di → t.ie = s.ie) ∧
    (i ≠ .hlt → t.halted = s.halted) ∧
    ((∀ n, i ≠ .inp n) → (∀ n, i ≠ .outp n) → t.ioLog = s.ioLog) ∧
    (t.ioLog = s.ioLog ∨ ∃ e : IoEvent, t.ioLog = s.ioLog ++ [e]) ∧
    (i.form.pcWrites = false → t.pc = s.pc)

/-- No instruction but IN, whose handler is given the whole state (assumption 5), depends on `last_cycles` or on IE (R24, R25):
changing either beforehand changes nothing else afterwards. -/
def Obligations.CostAndInterruptFlagAreNotRead : Prop :=
  ∀ (i : Instr) (s t : State) (n : Nat) (b : Bool), (∀ port, i ≠ .inp port) → exec i s = .next t →
    ∃ u : State, exec i { s with lastCycles := n, ie := b } = .next u ∧
      u = { t with lastCycles := n, ie := u.ie } ∧ (i ≠ .ei → i ≠ .di → u.ie = b)

/-! ## Memory, stack and flag byte -/

/-- A 16-bit write puts the low byte at its address and the high byte at the next one, with wrap, leaves every other byte alone,
and reads back whole (R34, R35). -/
def Obligations.WordAccessIsLittleEndian : Prop :=
  ∀ (s : State) (a v : Word),
    (s.memWrite16 a v).memRead16 a = v ∧
    (∀ b : Word, (s.memWrite16 a v).memRead b =
      if b = a then BitVec.ofNat 8 (v.toNat % 256)
      else if b.toNat = (a.toNat + 1) % 65536 then BitVec.ofNat 8 (v.toNat / 256)
      else s.memRead b)

/-- Two memories in canonical form that read the same everywhere are the same list. The form is the model's choice (assumption 10). -/
def Obligations.CanonicalMemoriesAreEqual : Prop :=
  ∀ m m' : List Host.Cell, Memory.wf m = true → Memory.wf m' = true →
    (∀ a : Word, memGet m a.toNat = memGet m' a.toNat) → m = m'

/-- Push16 and Pop16 (R110, R111), at any sp: where the bytes go, what stays, and that a pop gives the pushed word and the old sp
back. -/
def Obligations.PushThenPop : Prop :=
  ∀ (s : State) (v : Word),
    (s.push16 v).memRead (s.sp - 1) = BitVec.ofNat 8 (v.toNat / 256) ∧
    (s.push16 v).memRead (s.sp - 2) = BitVec.ofNat 8 (v.toNat % 256) ∧
    (∀ a : Word, a ≠ s.sp - 1 → a ≠ s.sp - 2 → (s.push16 v).memRead a = s.memRead a) ∧
    (s.push16 v).sp = s.sp - 2 ∧
    (s.push16 v).top16 = v ∧ (s.push16 v).drop16.sp = s.sp

/-- The flag byte: `S<<7 | Z<<6 | AC<<4 | P<<2 | 0x02 | CY`, and a byte written to it reads back with its padding forced (R20, R21).
The layout is the spec's decision D3. -/
def Obligations.FlagByteLayout : Prop :=
  (∀ f : Flags, f.toByte.toNat =
    128 * f.s.toNat + 64 * f.z.toNat + 16 * f.ac.toNat + 4 * f.p.toNat + 2 + f.cy.toNat) ∧
  (∀ f : Flags, Flags.ofByte f.toByte = f) ∧
  (∀ v : Byte, (Flags.ofByte v).toByte = (v &&& 0xD5) ||| 0x02)

/-! ## Data transfer -/

/-- MOV r,r', MOV r,M and MOV M,r, every row (R64, R65, R66): the encoding and the effect. That no flag is
written is the spec's decision D2. -/
def Obligations.MovEffect : Prop :=
  (∀ (dst src : Reg) (s : State),
    encode (Form.movRR dst src).instr = [BitVec.ofNat 8 (64 + 8 * dst.code + src.code)] ∧
    exec (Form.movRR dst src).instr s = .next (s.setReg dst (s.reg src))) ∧
  (∀ (dst : Reg) (s : State),
    encode (Form.movRM dst).instr = [BitVec.ofNat 8 (64 + 8 * dst.code + 6)] ∧
    exec (Form.movRM dst).instr s = .next (s.setReg dst (s.memRead (s.reg .h ++ s.reg .l)))) ∧
  (∀ (src : Reg) (s : State),
    encode (Form.movMR src).instr = [BitVec.ofNat 8 (64 + 8 * 6 + src.code)] ∧
    exec (Form.movMR src).instr s = .next (s.memWrite (s.reg .h ++ s.reg .l) (s.reg src)))

/-- MVI r and MVI M, every row (R67, R68). That no flag is written is the spec's decision D2. -/
def Obligations.MviEffect : Prop :=
  (∀ (dst : Reg) (d8 : Byte) (s : State),
    encode (Form.mviR dst d8).instr = [BitVec.ofNat 8 (8 * dst.code + 6), d8] ∧
    exec (Form.mviR dst d8).instr s = .next (s.setReg dst d8)) ∧
  (∀ (d8 : Byte) (s : State),
    encode (Form.mviM d8).instr = [0x36, d8] ∧
    exec (Form.mviM d8).instr s = .next (s.memWrite (s.reg .h ++ s.reg .l) d8))

/-- LXI, every row (R69): the byte after the opcode goes to the second register of the pair, the next one to the first. That
no flag is written is the spec's decision D2. -/
def Obligations.LxiEffect : Prop :=
  ∀ (lo hi : Byte) (s : State),
    encode (.lxiB (hi ++ lo)) = [0x01, lo, hi] ∧
    exec (.lxiB (hi ++ lo)) s = .next ((s.setReg .b hi).setReg .c lo) ∧
    encode (.lxiD (hi ++ lo)) = [0x11, lo, hi] ∧
    exec (.lxiD (hi ++ lo)) s = .next ((s.setReg .d hi).setReg .e lo) ∧
    encode (.lxiH (hi ++ lo)) = [0x21, lo, hi] ∧
    exec (.lxiH (hi ++ lo)) s = .next ((s.setReg .h hi).setReg .l lo) ∧
    encode (.lxiSp (hi ++ lo)) = [0x31, lo, hi] ∧
    exec (.lxiSp (hi ++ lo)) s = .next { s with sp := hi ++ lo }

/-- LDA, STA, LDAX and STAX (R70, R71, R74, R75): A from or to the byte at the operand address, BC or DE. That no flag
is written is the spec's decision D2. -/
def Obligations.AccumulatorLoadStoreEffect : Prop :=
  ∀ (lo hi : Byte) (s : State),
    encode (.lda (hi ++ lo)) = [0x3A, lo, hi] ∧
    exec (.lda (hi ++ lo)) s = .next (s.setReg .a (s.memRead (hi ++ lo))) ∧
    encode (.sta (hi ++ lo)) = [0x32, lo, hi] ∧
    exec (.sta (hi ++ lo)) s = .next (s.memWrite (hi ++ lo) (s.reg .a)) ∧
    encode .ldaxB = [0x0A] ∧ exec .ldaxB s = .next (s.setReg .a (s.memRead (s.reg .b ++ s.reg .c))) ∧
    encode .ldaxD = [0x1A] ∧ exec .ldaxD s = .next (s.setReg .a (s.memRead (s.reg .d ++ s.reg .e))) ∧
    encode .staxB = [0x02] ∧ exec .staxB s = .next (s.memWrite (s.reg .b ++ s.reg .c) (s.reg .a)) ∧
    encode .staxD = [0x12] ∧ exec .staxD s = .next (s.memWrite (s.reg .d ++ s.reg .e) (s.reg .a))

/-- LHLD and SHLD (R72, R73): L at the lower address, the higher one wrapping. Both instructions are the spec's from general
knowledge (D17, assumption 12). -/
def Obligations.DirectPairEffect : Prop :=
  ∀ (lo hi : Byte) (s : State),
    encode (.lhld (hi ++ lo)) = [0x2A, lo, hi] ∧
    exec (.lhld (hi ++ lo)) s =
      .next ((s.setReg .h (s.memRead (hi ++ lo + 1))).setReg .l (s.memRead (hi ++ lo))) ∧
    encode (.shld (hi ++ lo)) = [0x22, lo, hi] ∧
    exec (.shld (hi ++ lo)) s =
      .next ((s.memWrite (hi ++ lo) (s.reg .l)).memWrite (hi ++ lo + 1) (s.reg .h))

/-- XCHG (R76): H with D, L with E, nothing else; twice it restores the state. That no flag is written is the
spec's decision D2. -/
def Obligations.XchgEffect : Prop :=
  encode .xchg = [0xEB] ∧
  ∀ s : State, ∃ t : State, exec .xchg s = .next t ∧
    t = { s with regs := { s.regs with d := s.reg .h, e := s.reg .l, h := s.reg .d, l := s.reg .e } } ∧
    exec .xchg t = .next s

/-! ## Arithmetic -/

/-- ADD, ADC, ADI and ACI, every row (R80, R81, R84, R85): A takes the sum, and all five flags are those of R77 and R78. -/
def Obligations.AdditionEffect : Prop :=
  (∀ (src : Opnd) (s : State),
    encode (Form.alu .add src).instr = [BitVec.ofNat 8 (128 + src.code)] ∧
    exec (Form.alu .add src).instr s =
      .next (s.withResult (sumResult (s.reg .a).toNat (s.read8 src).toNat 0)) ∧
    encode (Form.alu .adc src).instr = [BitVec.ofNat 8 (136 + src.code)] ∧
    exec (Form.alu .adc src).instr s =
      .next (s.withResult (sumResult (s.reg .a).toNat (s.read8 src).toNat s.flags.cy.toNat))) ∧
  (∀ (d8 : Byte) (s : State),
    encode (.adi d8) = [0xC6, d8] ∧
    exec (.adi d8) s = .next (s.withResult (sumResult (s.reg .a).toNat d8.toNat 0)) ∧
    encode (.aci d8) = [0xCE, d8] ∧
    exec (.aci d8) s = .next (s.withResult (sumResult (s.reg .a).toNat d8.toNat s.flags.cy.toNat)))

/-- SUB, SBB, SUI and SBI, every row (R82, R83, R86, R87): A takes the difference; CY is the borrow and AC is 1 when no borrow leaves
the low digit, the polarity of the spec's decision D7 (C5). -/
def Obligations.SubtractionEffect : Prop :=
  (∀ (src : Opnd) (s : State),
    encode (Form.alu .sub src).instr = [BitVec.ofNat 8 (144 + src.code)] ∧
    exec (Form.alu .sub src).instr s =
      .next (s.withResult (differenceResult (s.reg .a).toNat (s.read8 src).toNat 0)) ∧
    encode (Form.alu .sbb src).instr = [BitVec.ofNat 8 (152 + src.code)] ∧
    exec (Form.alu .sbb src).instr s =
      .next (s.withResult (differenceResult (s.reg .a).toNat (s.read8 src).toNat s.flags.cy.toNat))) ∧
  (∀ (d8 : Byte) (s : State),
    encode (.sui d8) = [0xD6, d8] ∧
    exec (.sui d8) s = .next (s.withResult (differenceResult (s.reg .a).toNat d8.toNat 0)) ∧
    encode (.sbi d8) = [0xDE, d8] ∧
    exec (.sbi d8) s = .next (s.withResult (differenceResult (s.reg .a).toNat d8.toNat s.flags.cy.toNat)))

/-- A subtraction is the addition of the complement, with the carry turned round: the computation C5 and D7 choose for AC (R79). -/
def Obligations.SubtractionIsAdditionOfComplement : Prop :=
  ∀ (a b : Byte) (bin : Bool),
    (sub8 a b bin).r = (add8 a (~~~b) (!bin)).r ∧
    (sub8 a b bin).ac = (add8 a (~~~b) (!bin)).ac ∧
    (sub8 a b bin).cy = !(add8 a (~~~b) (!bin)).cy

/-- INR and DCR, every row (R88, R89): the operand changes by one, CY stays, and AC is that of the spec's decision D8. -/
def Obligations.IncrementDecrementEffect : Prop :=
  ∀ (dst : Opnd) (s : State),
    encode (Form.inr dst).instr = [BitVec.ofNat 8 (8 * dst.code + 4)] ∧
    encode (Form.dcr dst).instr = [BitVec.ofNat 8 (8 * dst.code + 5)] ∧
    exec (Form.inr dst).instr s = .next { s.write8 dst (s.read8 dst + 1) with
      flags := resultFlags (s.read8 dst + 1) (decide ((s.read8 dst).toNat % 16 = 15)) s.flags.cy } ∧
    exec (Form.dcr dst).instr s = .next { s.write8 dst (s.read8 dst - 1) with
      flags := resultFlags (s.read8 dst - 1) (decide ((s.read8 dst).toNat % 16 ≠ 0)) s.flags.cy }

/-- INX and DCX, every row (R90, R91): the pair, or SP, moves by one modulo 65536 and nothing else changes, no flag among it. -/
def Obligations.PairStepEffect : Prop :=
  (∀ (p : Pair) (s : State), encode (Form.inx p).instr = [BitVec.ofNat 8 (16 * p.code + 3)] ∧
    ∃ t : State, exec (Form.inx p).instr s = .next t ∧
    (t.pair p).toNat = ((s.pair p).toNat + 1) % 65536 ∧
    (∀ r : Reg, r ∉ p.regs → t.reg r = s.reg r) ∧ (p ≠ .sp → t.sp = s.sp) ∧
    t = { s with regs := t.regs, sp := t.sp }) ∧
  (∀ (p : Pair) (s : State), encode (Form.dcx p).instr = [BitVec.ofNat 8 (16 * p.code + 11)] ∧
    ∃ t : State, exec (Form.dcx p).instr s = .next t ∧
    (t.pair p).toNat = ((s.pair p).toNat + 65535) % 65536 ∧
    (∀ r : Reg, r ∉ p.regs → t.reg r = s.reg r) ∧ (p ≠ .sp → t.sp = s.sp) ∧
    t = { s with regs := t.regs, sp := t.sp })

/-- DAD, every row (R92): HL takes the sum of HL and the pair, CY its carry out of bit 15, and nothing else changes. -/
def Obligations.DoubleAddEffect : Prop :=
  ∀ (p : Pair) (s : State), encode (Form.dad p).instr = [BitVec.ofNat 8 (16 * p.code + 9)] ∧
    ∃ t : State, exec (Form.dad p).instr s = .next t ∧
    t.hl.toNat = (s.hl.toNat + (s.pair p).toNat) % 65536 ∧
    t.flags = { s.flags with cy := decide (65536 ≤ s.hl.toNat + (s.pair p).toNat) } ∧
    (∀ r : Reg, r ≠ .h → r ≠ .l → t.reg r = s.reg r) ∧
    t = { s with regs := t.regs, flags := t.flags }

/-- DAA (R93), for every A, AC and CY. The width of the stage-1 sum, CY and AC are the spec's decision D9. -/
def Obligations.DecimalAdjustEffect : Prop :=
  encode .daa = [0x27] ∧
  ∀ s : State,
    let a := (s.reg .a).toNat
    let lo := decide (9 < a % 16) || s.flags.ac
    let t := a + 6 * lo.toNat
    let hi := decide (9 < t / 16) || s.flags.cy
    let r := BitVec.ofNat 8 (t + 96 * hi.toNat)
    exec .daa s = .next (s.withResult (r, resultFlags r (lo && decide (9 < a % 16)) hi))

/-- Decimal addition: where A and the operand each hold two decimal digits, ADC followed by DAA leaves in A the two digits of their
sum and the incoming carry, and in CY its carry past 99 (R81, R93; the purpose the source gives DAA, with D9). -/
def Obligations.DecimalAddition : Prop :=
  ∀ (src : Opnd) (s : State), isBcd (s.reg .a) = true → isBcd (s.read8 src) = true →
    ∃ t u : State, exec (Form.alu .adc src).instr s = .next t ∧ exec .daa t = .next u ∧
      isBcd (u.reg .a) = true ∧
      100 * u.flags.cy.toNat + bcdValue (u.reg .a) =
        bcdValue (s.reg .a) + bcdValue (s.read8 src) + s.flags.cy.toNat

/-! ## Logic, compare, rotate, carry -/

/-- ANA, XRA, ORA, ANI, XRI and ORI, every row (R94 to R97, R99 to R101): AND sets AC to bit 3 of the OR of its operands, the
other two clear it, and all three clear CY. -/
def Obligations.LogicEffect : Prop :=
  (∀ (src : Opnd) (s : State),
    encode (Form.alu .ana src).instr = [BitVec.ofNat 8 (160 + src.code)] ∧
    exec (Form.alu .ana src).instr s = .next (s.withResult (s.reg .a &&& s.read8 src,
      resultFlags (s.reg .a &&& s.read8 src) ((s.reg .a).getLsbD 3 || (s.read8 src).getLsbD 3) false)) ∧
    encode (Form.alu .xra src).instr = [BitVec.ofNat 8 (168 + src.code)] ∧
    exec (Form.alu .xra src).instr s = .next (s.withResult (s.reg .a ^^^ s.read8 src,
      resultFlags (s.reg .a ^^^ s.read8 src) false false)) ∧
    encode (Form.alu .ora src).instr = [BitVec.ofNat 8 (176 + src.code)] ∧
    exec (Form.alu .ora src).instr s = .next (s.withResult (s.reg .a ||| s.read8 src,
      resultFlags (s.reg .a ||| s.read8 src) false false))) ∧
  (∀ (d8 : Byte) (s : State),
    encode (.ani d8) = [0xE6, d8] ∧
    exec (.ani d8) s = .next (s.withResult (s.reg .a &&& d8,
      resultFlags (s.reg .a &&& d8) ((s.reg .a).getLsbD 3 || d8.getLsbD 3) false)) ∧
    encode (.xri d8) = [0xEE, d8] ∧
    exec (.xri d8) s = .next (s.withResult (s.reg .a ^^^ d8, resultFlags (s.reg .a ^^^ d8) false false)) ∧
    encode (.ori d8) = [0xF6, d8] ∧
    exec (.ori d8) s = .next (s.withResult (s.reg .a ||| d8, resultFlags (s.reg .a ||| d8) false false)))

/-- CMP and CPI, every row (R98, R102): the flags of the subtraction and nothing else, so Z says equal and CY says less (AC by D7). -/
def Obligations.CompareEffect : Prop :=
  (∀ (src : Opnd) (s : State), ∃ f : Flags,
    encode (Form.alu .cmp src).instr = [BitVec.ofNat 8 (184 + src.code)] ∧
    exec (Form.alu .cmp src).instr s = .next { s with flags := f } ∧
    f = (differenceResult (s.reg .a).toNat (s.read8 src).toNat 0).2 ∧
    (f.z = true ↔ s.reg .a = s.read8 src) ∧ (f.cy = true ↔ (s.reg .a).toNat < (s.read8 src).toNat)) ∧
  (∀ (d8 : Byte) (s : State), ∃ f : Flags,
    encode (.cpi d8) = [0xFE, d8] ∧
    exec (.cpi d8) s = .next { s with flags := f } ∧
    f = (differenceResult (s.reg .a).toNat d8.toNat 0).2 ∧
    (f.z = true ↔ s.reg .a = d8) ∧ (f.cy = true ↔ (s.reg .a).toNat < d8.toNat))

/-- RLC, RRC, RAL and RAR (R103 to R106): A and CY, nothing else. Which bit goes where is the spec's decision D18. -/
def Obligations.RotateEffect : Prop :=
  encode .rlc = [0x07] ∧ encode .rrc = [0x0F] ∧ encode .ral = [0x17] ∧ encode .rar = [0x1F] ∧
  ∀ s : State,
    let a := (s.reg .a).toNat
    exec .rlc s = .next { s.setReg .a (BitVec.ofNat 8 (2 * a + a / 128)) with
      flags := { s.flags with cy := decide (128 ≤ a) } } ∧
    exec .rrc s = .next { s.setReg .a (BitVec.ofNat 8 (a / 2 + 128 * (a % 2))) with
      flags := { s.flags with cy := decide (a % 2 = 1) } } ∧
    exec .ral s = .next { s.setReg .a (BitVec.ofNat 8 (2 * a + s.flags.cy.toNat)) with
      flags := { s.flags with cy := decide (128 ≤ a) } } ∧
    exec .rar s = .next { s.setReg .a (BitVec.ofNat 8 (a / 2 + 128 * s.flags.cy.toNat)) with
      flags := { s.flags with cy := decide (a % 2 = 1) } }

/-- RAL and RAR undo each other, A, CY and all (R105, R106, D18). -/
def Obligations.RotatesThroughCarryUndoEachOther : Prop :=
  ∀ s : State, ∃ t u : State, exec .ral s = .next t ∧ exec .rar t = .next s ∧
    exec .rar s = .next u ∧ exec .ral u = .next s

/-- CMA, CMC and STC (R107, R108, R109). -/
def Obligations.ComplementAndCarryEffect : Prop :=
  encode .cma = [0x2F] ∧ encode .cmc = [0x3F] ∧ encode .stc = [0x37] ∧
  ∀ s : State,
    exec .cma s = .next (s.setReg .a (BitVec.ofNat 8 (255 - (s.reg .a).toNat))) ∧
    exec .cmc s = .next { s with flags := { s.flags with cy := decide (s.flags.cy = false) } } ∧
    exec .stc s = .next { s with flags := { s.flags with cy := true } }

/-! ## Branches -/

/-- JMP, PCHL, CALL and the eight restarts (R113, R144, R123, R143): pc takes the target; CALL and RST push the address of the next
instruction first. That no flag is written is the spec's decision D2. -/
def Obligations.JumpCallRestartEffect : Prop :=
  (∀ (lo hi : Byte) (s : State),
    encode (.jmp (hi ++ lo)) = [0xC3, lo, hi] ∧
    exec (.jmp (hi ++ lo)) s = .next { s with pc := hi ++ lo } ∧
    encode (.call (hi ++ lo)) = [0xCD, lo, hi] ∧
    exec (.call (hi ++ lo)) s = .next { s.push16 s.pc with pc := hi ++ lo } ∧
    encode .pchl = [0xE9] ∧
    exec .pchl s = .next { s with pc := s.reg .h ++ s.reg .l }) ∧
  (∀ (n : Fin 8) (s : State),
    encode (Form.rst n).instr = [BitVec.ofNat 8 (199 + 8 * n.val)] ∧
    exec (Form.rst n).instr s = .next { s.push16 s.pc with pc := BitVec.ofNat 16 (8 * n.val) })

/-- The eight conditional jumps (R114 to R122): pc takes the target where the condition holds, and stays past both operand bytes
where it does not. That no flag is written is the spec's decision D2. -/
def Obligations.ConditionalJumpEffect : Prop :=
  ∀ (lo hi : Byte) (s : State),
    (encode (.jnz (hi ++ lo)) = [0xC2, lo, hi] ∧
      exec (.jnz (hi ++ lo)) s = .next (if s.flags.z = false then { s with pc := hi ++ lo } else s)) ∧
    (encode (.jz (hi ++ lo)) = [0xCA, lo, hi] ∧
      exec (.jz (hi ++ lo)) s = .next (if s.flags.z = true then { s with pc := hi ++ lo } else s)) ∧
    (encode (.jnc (hi ++ lo)) = [0xD2, lo, hi] ∧
      exec (.jnc (hi ++ lo)) s = .next (if s.flags.cy = false then { s with pc := hi ++ lo } else s)) ∧
    (encode (.jc (hi ++ lo)) = [0xDA, lo, hi] ∧
      exec (.jc (hi ++ lo)) s = .next (if s.flags.cy = true then { s with pc := hi ++ lo } else s)) ∧
    (encode (.jpo (hi ++ lo)) = [0xE2, lo, hi] ∧
      exec (.jpo (hi ++ lo)) s = .next (if s.flags.p = false then { s with pc := hi ++ lo } else s)) ∧
    (encode (.jpe (hi ++ lo)) = [0xEA, lo, hi] ∧
      exec (.jpe (hi ++ lo)) s = .next (if s.flags.p = true then { s with pc := hi ++ lo } else s)) ∧
    (encode (.jp (hi ++ lo)) = [0xF2, lo, hi] ∧
      exec (.jp (hi ++ lo)) s = .next (if s.flags.s = false then { s with pc := hi ++ lo } else s)) ∧
    (encode (.jm (hi ++ lo)) = [0xFA, lo, hi] ∧
      exec (.jm (hi ++ lo)) s = .next (if s.flags.s = true then { s with pc := hi ++ lo } else s))

/-- The eight conditional calls (R124 to R132): a call where the condition holds, nothing where it does not. That no flag is
written is the spec's decision D2. -/
def Obligations.ConditionalCallEffect : Prop :=
  ∀ (lo hi : Byte) (s : State),
    (encode (.cnz (hi ++ lo)) = [0xC4, lo, hi] ∧ exec (.cnz (hi ++ lo)) s =
      .next (if s.flags.z = false then { s.push16 s.pc with pc := hi ++ lo } else s)) ∧
    (encode (.cz (hi ++ lo)) = [0xCC, lo, hi] ∧ exec (.cz (hi ++ lo)) s =
      .next (if s.flags.z = true then { s.push16 s.pc with pc := hi ++ lo } else s)) ∧
    (encode (.cnc (hi ++ lo)) = [0xD4, lo, hi] ∧ exec (.cnc (hi ++ lo)) s =
      .next (if s.flags.cy = false then { s.push16 s.pc with pc := hi ++ lo } else s)) ∧
    (encode (.cc (hi ++ lo)) = [0xDC, lo, hi] ∧ exec (.cc (hi ++ lo)) s =
      .next (if s.flags.cy = true then { s.push16 s.pc with pc := hi ++ lo } else s)) ∧
    (encode (.cpo (hi ++ lo)) = [0xE4, lo, hi] ∧ exec (.cpo (hi ++ lo)) s =
      .next (if s.flags.p = false then { s.push16 s.pc with pc := hi ++ lo } else s)) ∧
    (encode (.cpe (hi ++ lo)) = [0xEC, lo, hi] ∧ exec (.cpe (hi ++ lo)) s =
      .next (if s.flags.p = true then { s.push16 s.pc with pc := hi ++ lo } else s)) ∧
    (encode (.cp (hi ++ lo)) = [0xF4, lo, hi] ∧ exec (.cp (hi ++ lo)) s =
      .next (if s.flags.s = false then { s.push16 s.pc with pc := hi ++ lo } else s)) ∧
    (encode (.cm (hi ++ lo)) = [0xFC, lo, hi] ∧ exec (.cm (hi ++ lo)) s =
      .next (if s.flags.s = true then { s.push16 s.pc with pc := hi ++ lo } else s))

/-- RET and the eight conditional returns (R133 to R142): pc takes the two bytes at sp, low byte first, and sp rises by 2, where the
condition holds; nothing changes where it does not. That no flag is written is the spec's decision D2. -/
def Obligations.ReturnEffect : Prop :=
  ∀ s : State,
    let returned : State := { s with pc := s.memRead (s.sp + 1) ++ s.memRead s.sp, sp := s.sp + 2 }
    (encode .ret = [0xC9] ∧ exec .ret s = .next returned) ∧
    (encode .rnz = [0xC0] ∧ exec .rnz s = .next (if s.flags.z = false then returned else s)) ∧
    (encode .rz = [0xC8] ∧ exec .rz s = .next (if s.flags.z = true then returned else s)) ∧
    (encode .rnc = [0xD0] ∧ exec .rnc s = .next (if s.flags.cy = false then returned else s)) ∧
    (encode .rc = [0xD8] ∧ exec .rc s = .next (if s.flags.cy = true then returned else s)) ∧
    (encode .rpo = [0xE0] ∧ exec .rpo s = .next (if s.flags.p = false then returned else s)) ∧
    (encode .rpe = [0xE8] ∧ exec .rpe s = .next (if s.flags.p = true then returned else s)) ∧
    (encode .rp = [0xF0] ∧ exec .rp s = .next (if s.flags.s = false then returned else s)) ∧
    (encode .rm = [0xF8] ∧ exec .rm s = .next (if s.flags.s = true then returned else s))

/-- A call followed by a return leaves pc and sp where they were, whatever sp is, and changes only memory below the stack; the same
for a restart (R123, R133, R143; the source's call and return symmetry, test S10). -/
def Obligations.CallThenReturn : Prop :=
  (∀ (a16 : Word) (s : State), ∃ t u : State, exec (.call a16) s = .next t ∧ exec .ret t = .next u ∧
    u = { s with mem := u.mem } ∧ ∀ a : Word, a ≠ s.sp - 1 → a ≠ s.sp - 2 → u.memRead a = s.memRead a) ∧
  (∀ (n : Fin 8) (s : State), ∃ t u : State, exec (Form.rst n).instr s = .next t ∧ exec .ret t = .next u ∧
    u = { s with mem := u.mem } ∧ ∀ a : Word, a ≠ s.sp - 1 → a ≠ s.sp - 2 → u.memRead a = s.memRead a)

/-! ## Stack, I/O, control -/

/-- PUSH, every row, and POP PSW (R145, R146, R148, R21). PUSH puts the first register of the pair at sp - 1 and the second at sp - 2,
A and the flag byte for PSW. POP PSW takes A from sp + 1 and the five flags from bits 7, 6, 4, 2 and 0 of the byte at sp, whose
other bits are discarded. The placement of the pairs is the spec's inference from the call convention, the flag byte its
decision D3. -/
def Obligations.PushAndPopPswEffect : Prop :=
  encode .pushB = [0xC5] ∧ encode .pushD = [0xD5] ∧ encode .pushH = [0xE5] ∧ encode .pushPsw = [0xF5] ∧
  encode .popPsw = [0xF1] ∧
  ∀ s : State,
    exec .pushB s = .next (s.push16 (s.reg .b ++ s.reg .c)) ∧
    exec .pushD s = .next (s.push16 (s.reg .d ++ s.reg .e)) ∧
    exec .pushH s = .next (s.push16 (s.reg .h ++ s.reg .l)) ∧
    exec .pushPsw s = .next (s.push16 (s.reg .a ++ s.flags.toByte)) ∧
    ∃ t : State, exec .popPsw s = .next t ∧
      t = { s with regs := { s.regs with a := s.memRead (s.sp + 1) }, flags := t.flags, sp := s.sp + 2 } ∧
      t.flags = { s := (s.memRead s.sp).getLsbD 7, z := (s.memRead s.sp).getLsbD 6, ac := (s.memRead s.sp).getLsbD 4,
                  p := (s.memRead s.sp).getLsbD 2, cy := (s.memRead s.sp).getLsbD 0 } ∧
      t.flagByte = (s.memRead s.sp &&& 0xD5) ||| 0x02

/-- POP of BC, DE and HL (R147): the second register from sp, the first from sp + 1, and sp rises by 2. That no flag is
written is the spec's decision D2. -/
def Obligations.PopPairEffect : Prop :=
  ∀ s : State,
    (encode .popB = [0xC1] ∧ exec .popB s = .next { s with
      regs := { s.regs with c := s.memRead s.sp, b := s.memRead (s.sp + 1) }, sp := s.sp + 2 }) ∧
    (encode .popD = [0xD1] ∧ exec .popD s = .next { s with
      regs := { s.regs with e := s.memRead s.sp, d := s.memRead (s.sp + 1) }, sp := s.sp + 2 }) ∧
    (encode .popH = [0xE1] ∧ exec .popH s = .next { s with
      regs := { s.regs with l := s.memRead s.sp, h := s.memRead (s.sp + 1) }, sp := s.sp + 2 })

/-- A push followed by the pop of the same pair restores every register, every flag and sp, at any sp (R110, R111, R145 to R148;
tests S7, S9). -/
def Obligations.PushThenPopRestores : Prop :=
  ∀ (p : StackPair) (s : State), ∃ t u : State,
    exec (Form.push p).instr s = .next t ∧ exec (Form.pop p).instr t = .next u ∧ u = { s with mem := t.mem }

/-- XTHL (R149): L with the byte at sp, H with the byte at sp + 1 (the spec's decision D19); sp stays, and nothing else changes. -/
def Obligations.ExchangeTopEffect : Prop :=
  encode .xthl = [0xE3] ∧
  ∀ s : State, ∃ t : State, exec .xthl s = .next t ∧
    t.reg .l = s.memRead s.sp ∧ t.reg .h = s.memRead (s.sp + 1) ∧
    t.memRead s.sp = s.reg .l ∧ t.memRead (s.sp + 1) = s.reg .h ∧
    (∀ r : Reg, r ≠ .h → r ≠ .l → t.reg r = s.reg r) ∧
    (∀ a : Word, a ≠ s.sp → a ≠ s.sp + 1 → t.memRead a = s.memRead a) ∧
    t = { s with regs := t.regs, mem := t.mem }

/-- SPHL, EI, DI and NOP (R150, R155, R156, R159). That no flag is written is the spec's decision D2, that EI takes effect at once its
decision D13. -/
def Obligations.PlainControlEffect : Prop :=
  ∀ s : State,
    (encode .sphl = [0xF9] ∧ exec .sphl s = .next { s with sp := s.reg .h ++ s.reg .l }) ∧
    (encode .ei = [0xFB] ∧ exec .ei s = .next { s with ie := true }) ∧
    (encode .di = [0xF3] ∧ exec .di s = .next { s with ie := false }) ∧
    (encode .nop = [0x00] ∧ exec .nop s = .next s)

/-- HLT (R157): the latch, and nothing else; after it no step has a transition (R158). The latch is the spec's decision D11; that it is
also the step's halt signal is the model's reading (assumption 11). -/
def Obligations.HaltEffect : Prop :=
  encode .hlt = [0x76] ∧
  ∀ s : State, ∃ t : State, exec .hlt s = .next t ∧ t = { s with halted := true } ∧
    step t = .refused .stepWhileHalted

/-- IN and OUT (R151 to R154). With a handler IN puts one byte, whichever the handler answers, into A and logs the read, and OUT logs
the write of A; without one neither does anything. That no flag is written is the spec's decision D10. The log is the model's own
field, reads among its entries (assumption 6; to the spec an OUT leaves no trace in the core, R28, R152), and so is the bit that says
whether there is a handler (assumption 4); the byte read is a free value (assumption 5). -/
def Obligations.PortEffect : Prop :=
  ∀ (port : Byte) (s : State),
    encode (.inp port) = [0xDB, port] ∧ encode (.outp port) = [0xD3, port] ∧
    (s.ioPresent = true →
      (∃ v : Byte, exec (.inp port) s = .next { s.setReg .a v with ioLog := s.ioLog ++ [.read port v] }) ∧
      exec (.outp port) s = .next { s with ioLog := s.ioLog ++ [.write port (s.reg .a)] }) ∧
    (s.ioPresent = false → exec (.inp port) s = .next s ∧ exec (.outp port) s = .next s)

/-- The seven aliases of NOP do nothing (R160). The other five undocumented bytes under both settings (R161, D5): with one byte they
do nothing (`nop`); with an address 0xCB jumps and 0xDD, 0xED and 0xFD call (`chip`); 0xD9 returns under `chip` only. Which bytes
are undocumented is the spec's from general knowledge (assumption 12); that an operand tells the two kinds apart is the model's choice
(assumption 13). -/
def Obligations.UndocumentedByteEffect : Prop :=
  (∀ (n : Fin 7) (s : State),
    encode (Form.nopAlias n).instr = [BitVec.ofNat 8 (8 * (n.val + 1))] ∧ exec (Form.nopAlias n).instr s = .next s) ∧
  ∀ (lo hi : Byte) (rest : List Byte) (s : State),
    (decode .nop (0xCB :: rest) = .instr (.undocCB none) rest ∧ exec (.undocCB none) s = .next s) ∧
    (decode .chip (0xCB :: lo :: hi :: rest) = .instr (.undocCB (some (hi ++ lo))) rest ∧
      exec (.undocCB (some (hi ++ lo))) s = .next { s with pc := hi ++ lo }) ∧
    (decode .nop (0xDD :: rest) = .instr (.undocDD none) rest ∧ exec (.undocDD none) s = .next s) ∧
    (decode .chip (0xDD :: lo :: hi :: rest) = .instr (.undocDD (some (hi ++ lo))) rest ∧
      exec (.undocDD (some (hi ++ lo))) s = .next { s.push16 s.pc with pc := hi ++ lo }) ∧
    (decode .nop (0xED :: rest) = .instr (.undocED none) rest ∧ exec (.undocED none) s = .next s) ∧
    (decode .chip (0xED :: lo :: hi :: rest) = .instr (.undocED (some (hi ++ lo))) rest ∧
      exec (.undocED (some (hi ++ lo))) s = .next { s.push16 s.pc with pc := hi ++ lo }) ∧
    (decode .nop (0xFD :: rest) = .instr (.undocFD none) rest ∧ exec (.undocFD none) s = .next s) ∧
    (decode .chip (0xFD :: lo :: hi :: rest) = .instr (.undocFD (some (hi ++ lo))) rest ∧
      exec (.undocFD (some (hi ++ lo))) s = .next { s.push16 s.pc with pc := hi ++ lo }) ∧
    (decode .nop (0xD9 :: rest) = .instr .undocD9 rest ∧ decode .chip (0xD9 :: rest) = .instr .undocD9 rest ∧
      exec .undocD9 s = .next (if s.cfg.undocAlias = .chip then
        { s with pc := s.memRead (s.sp + 1) ++ s.memRead s.sp, sp := s.sp + 2 } else s))

/-! ## The host's operations -/

/-- Interrupt entry (R164, R165, R167): when it is admitted, and what it does. That it is refused otherwise is the spec's decision
D12; that entry is an operation beside the step is the model's reading (assumption 7). -/
def Obligations.InterruptEntryEffect : Prop :=
  ∀ (n : Nat) (s : State),
    (s.halted = false → s.ie = true → n ≤ 7 → ∃ t : State, raiseInterrupt n s = .next t ∧
      t.memRead (s.sp - 1) = BitVec.ofNat 8 (s.pc.toNat / 256) ∧
      t.memRead (s.sp - 2) = BitVec.ofNat 8 (s.pc.toNat % 256) ∧
      (∀ a : Word, a ≠ s.sp - 1 → a ≠ s.sp - 2 → t.memRead a = s.memRead a) ∧
      t = { s with mem := t.mem, sp := s.sp - 2, pc := BitVec.ofNat 16 (8 * n), ie := false }) ∧
    (s.halted = true → raiseInterrupt n s = .refused .interruptWhileHalted) ∧
    (s.halted = false → s.ie = false → raiseInterrupt n s = .refused .interruptWhileDisabled) ∧
    (s.halted = false → s.ie = true → 7 < n → raiseInterrupt n s = .refused .vectorOutOfRange)

/-- Interrupt entry is RST n at that point, and IE cleared; a RET undoes it but for IE and the two bytes below the stack (R164,
R169). That entry is an operation beside the step is the model's reading (assumption 7). -/
def Obligations.InterruptIsRestartThenReturn : Prop :=
  ∀ (n : Fin 8) (s : State), s.halted = false → s.ie = true →
    ∃ t u v : State, exec (Form.rst n).instr s = .next t ∧ raiseInterrupt n.val s = .next u ∧
      u = { t with ie := false } ∧ exec .ret u = .next v ∧ v = { s with mem := u.mem, ie := false }

/-- The memory load (R46): the buffer's bytes stand where they were put, every other byte and everything but memory is unchanged; a
buffer past 0xFFFF is refused (the spec's decision D15). That a load is an operation beside the step is the model's reading
(assumption 7). -/
def Obligations.MemoryLoadEffect : Prop :=
  ∀ (offset : Word) (bytes : List Byte) (s : State), s.halted = false →
    (offset.toNat + bytes.length ≤ 65536 → ∃ t : State, load offset bytes s = .next t ∧
      (∀ (k : Nat) (h : k < bytes.length), t.memRead (offset + BitVec.ofNat 16 k) = bytes[k]) ∧
      (∀ a : Word, a.toNat < offset.toNat ∨ offset.toNat + bytes.length ≤ a.toNat → t.memRead a = s.memRead a) ∧
      t = { s with mem := t.mem }) ∧
    (65536 < offset.toNat + bytes.length → load offset bytes s = .refused .loadPastEnd)
end

