-- ==== Sys2Proof/Laws/Bytes.lean ====
section
/-! SUPPORT. A word and its two bytes, and the decoder by the length of the opcode byte. -/

namespace Sys2Proof

theorem cat_eq (h l : Byte) : cat h l = h ++ l := rfl

@[simp] theorem hiByte_cat (h l : Byte) : hiByte (cat h l) = h := by
  apply BitVec.eq_of_getLsbD_eq
  intro i hi
  simp only [hiByte, cat, BitVec.getLsbD_extractLsb']
  rw [BitVec.getLsbD_append]
  simp [hi]

@[simp] theorem loByte_cat (h l : Byte) : loByte (cat h l) = l := by
  apply BitVec.eq_of_getLsbD_eq
  intro i hi
  simp only [loByte, cat, BitVec.getLsbD_extractLsb']
  rw [BitVec.getLsbD_append]
  simp [hi]

@[simp] theorem cat_hiByte_loByte (v : Word) : cat (hiByte v) (loByte v) = v := by
  apply BitVec.eq_of_getLsbD_eq
  intro i hi
  simp only [cat, hiByte, loByte, BitVec.getLsbD_append, BitVec.getLsbD_extractLsb']
  by_cases h : i < 8
  · simp [h]
  · simp [h, show i - 8 < 8 by omega, show 8 + (i - 8) = i by omega]

theorem toNat_cat (h l : Byte) : (cat h l).toNat = 256 * h.toNat + l.toNat := by
  simp only [cat, BitVec.toNat_append]
  rw [← Nat.shiftLeft_add_eq_or_of_lt l.isLt, Nat.shiftLeft_eq]
  omega

theorem toNat_hiByte (v : Word) : (hiByte v).toNat = v.toNat / 256 := by
  have h := toNat_cat (hiByte v) (loByte v)
  have := (loByte v).isLt
  rw [cat_hiByte_loByte] at h
  omega

theorem toNat_loByte (v : Word) : (loByte v).toNat = v.toNat % 256 := by
  have h := toNat_cat (hiByte v) (loByte v)
  have := (loByte v).isLt
  rw [cat_hiByte_loByte] at h
  omega

/-! ## Decoding by length -/

theorem decode_one {u : UndocAlias} {op : Byte} (h : opcodeLength u op = 1) (rest : List Byte) :
    decode u (op :: rest) = .instr (opcodeMap u 0 0 op) rest := by
  simp [decode, h]

theorem decode_two {u : UndocAlias} {op : Byte} (h : opcodeLength u op = 2) (d8 : Byte) (rest : List Byte) :
    decode u (op :: d8 :: rest) = .instr (opcodeMap u d8 0 op) rest := by
  simp [decode, h]

theorem decode_three {u : UndocAlias} {op : Byte} (h : opcodeLength u op = 3) (lo hi : Byte) (rest : List Byte) :
    decode u (op :: lo :: hi :: rest) = .instr (opcodeMap u 0 (cat hi lo) op) rest := by
  simp [decode, h]

/-- An opcode byte begins an instruction of one, two or three bytes (R56). -/
theorem opcodeLength_cases (u : UndocAlias) (op : Byte) :
    opcodeLength u op = 1 ∨ opcodeLength u op = 2 ∨ opcodeLength u op = 3 := by
  unfold opcodeLength
  split
  · exact .inr (.inr rfl)
  · split
    · exact .inr (.inl rfl)
    · exact .inl rfl

end Sys2Proof
end

