-- ==== Sys2Proof/Laws/State.lean ====
section
/-! SUPPORT. One lemma per field and named update of the state, so that no later proof unfolds an update. -/

namespace Sys2Proof.Machine

/-! ### State.setReg -/

@[simp] theorem setReg_pc (s : State) (r : Reg) (v : Byte) : (s.setReg r v).pc = s.pc := rfl
@[simp] theorem setReg_sp (s : State) (r : Reg) (v : Byte) : (s.setReg r v).sp = s.sp := rfl
@[simp] theorem setReg_flags (s : State) (r : Reg) (v : Byte) : (s.setReg r v).flags = s.flags := rfl
@[simp] theorem setReg_ie (s : State) (r : Reg) (v : Byte) : (s.setReg r v).ie = s.ie := rfl
@[simp] theorem setReg_lastCycles (s : State) (r : Reg) (v : Byte) : (s.setReg r v).lastCycles = s.lastCycles := rfl
@[simp] theorem setReg_halted (s : State) (r : Reg) (v : Byte) : (s.setReg r v).halted = s.halted := rfl
@[simp] theorem setReg_mem (s : State) (r : Reg) (v : Byte) : (s.setReg r v).mem = s.mem := rfl
@[simp] theorem setReg_cfg (s : State) (r : Reg) (v : Byte) : (s.setReg r v).cfg = s.cfg := rfl
@[simp] theorem setReg_ioPresent (s : State) (r : Reg) (v : Byte) : (s.setReg r v).ioPresent = s.ioPresent := rfl
@[simp] theorem setReg_ioLog (s : State) (r : Reg) (v : Byte) : (s.setReg r v).ioLog = s.ioLog := rfl
@[simp] theorem setReg_draws (s : State) (r : Reg) (v : Byte) : (s.setReg r v).draws = s.draws := rfl

/-! ### State.memWrite -/

@[simp] theorem memWrite_regs (s : State) (a : Word) (v : Byte) : (s.memWrite a v).regs = s.regs := rfl
@[simp] theorem memWrite_pc (s : State) (a : Word) (v : Byte) : (s.memWrite a v).pc = s.pc := rfl
@[simp] theorem memWrite_sp (s : State) (a : Word) (v : Byte) : (s.memWrite a v).sp = s.sp := rfl
@[simp] theorem memWrite_flags (s : State) (a : Word) (v : Byte) : (s.memWrite a v).flags = s.flags := rfl
@[simp] theorem memWrite_ie (s : State) (a : Word) (v : Byte) : (s.memWrite a v).ie = s.ie := rfl
@[simp] theorem memWrite_lastCycles (s : State) (a : Word) (v : Byte) : (s.memWrite a v).lastCycles = s.lastCycles := rfl
@[simp] theorem memWrite_halted (s : State) (a : Word) (v : Byte) : (s.memWrite a v).halted = s.halted := rfl
@[simp] theorem memWrite_cfg (s : State) (a : Word) (v : Byte) : (s.memWrite a v).cfg = s.cfg := rfl
@[simp] theorem memWrite_ioPresent (s : State) (a : Word) (v : Byte) : (s.memWrite a v).ioPresent = s.ioPresent := rfl
@[simp] theorem memWrite_ioLog (s : State) (a : Word) (v : Byte) : (s.memWrite a v).ioLog = s.ioLog := rfl
@[simp] theorem memWrite_draws (s : State) (a : Word) (v : Byte) : (s.memWrite a v).draws = s.draws := rfl

/-! ### State.memWrite16 -/

@[simp] theorem memWrite16_regs (s : State) (a v : Word) : (s.memWrite16 a v).regs = s.regs := rfl
@[simp] theorem memWrite16_pc (s : State) (a v : Word) : (s.memWrite16 a v).pc = s.pc := rfl
@[simp] theorem memWrite16_sp (s : State) (a v : Word) : (s.memWrite16 a v).sp = s.sp := rfl
@[simp] theorem memWrite16_flags (s : State) (a v : Word) : (s.memWrite16 a v).flags = s.flags := rfl
@[simp] theorem memWrite16_ie (s : State) (a v : Word) : (s.memWrite16 a v).ie = s.ie := rfl
@[simp] theorem memWrite16_lastCycles (s : State) (a v : Word) : (s.memWrite16 a v).lastCycles = s.lastCycles := rfl
@[simp] theorem memWrite16_halted (s : State) (a v : Word) : (s.memWrite16 a v).halted = s.halted := rfl
@[simp] theorem memWrite16_cfg (s : State) (a v : Word) : (s.memWrite16 a v).cfg = s.cfg := rfl
@[simp] theorem memWrite16_ioPresent (s : State) (a v : Word) : (s.memWrite16 a v).ioPresent = s.ioPresent := rfl
@[simp] theorem memWrite16_ioLog (s : State) (a v : Word) : (s.memWrite16 a v).ioLog = s.ioLog := rfl
@[simp] theorem memWrite16_draws (s : State) (a v : Word) : (s.memWrite16 a v).draws = s.draws := rfl

/-! ### State.setBC -/

@[simp] theorem setBC_pc (s : State) (v : Word) : (s.setBC v).pc = s.pc := rfl
@[simp] theorem setBC_sp (s : State) (v : Word) : (s.setBC v).sp = s.sp := rfl
@[simp] theorem setBC_flags (s : State) (v : Word) : (s.setBC v).flags = s.flags := rfl
@[simp] theorem setBC_ie (s : State) (v : Word) : (s.setBC v).ie = s.ie := rfl
@[simp] theorem setBC_lastCycles (s : State) (v : Word) : (s.setBC v).lastCycles = s.lastCycles := rfl
@[simp] theorem setBC_halted (s : State) (v : Word) : (s.setBC v).halted = s.halted := rfl
@[simp] theorem setBC_mem (s : State) (v : Word) : (s.setBC v).mem = s.mem := rfl
@[simp] theorem setBC_cfg (s : State) (v : Word) : (s.setBC v).cfg = s.cfg := rfl
@[simp] theorem setBC_ioPresent (s : State) (v : Word) : (s.setBC v).ioPresent = s.ioPresent := rfl
@[simp] theorem setBC_ioLog (s : State) (v : Word) : (s.setBC v).ioLog = s.ioLog := rfl
@[simp] theorem setBC_draws (s : State) (v : Word) : (s.setBC v).draws = s.draws := rfl

/-! ### State.setDE -/

@[simp] theorem setDE_pc (s : State) (v : Word) : (s.setDE v).pc = s.pc := rfl
@[simp] theorem setDE_sp (s : State) (v : Word) : (s.setDE v).sp = s.sp := rfl
@[simp] theorem setDE_flags (s : State) (v : Word) : (s.setDE v).flags = s.flags := rfl
@[simp] theorem setDE_ie (s : State) (v : Word) : (s.setDE v).ie = s.ie := rfl
@[simp] theorem setDE_lastCycles (s : State) (v : Word) : (s.setDE v).lastCycles = s.lastCycles := rfl
@[simp] theorem setDE_halted (s : State) (v : Word) : (s.setDE v).halted = s.halted := rfl
@[simp] theorem setDE_mem (s : State) (v : Word) : (s.setDE v).mem = s.mem := rfl
@[simp] theorem setDE_cfg (s : State) (v : Word) : (s.setDE v).cfg = s.cfg := rfl
@[simp] theorem setDE_ioPresent (s : State) (v : Word) : (s.setDE v).ioPresent = s.ioPresent := rfl
@[simp] theorem setDE_ioLog (s : State) (v : Word) : (s.setDE v).ioLog = s.ioLog := rfl
@[simp] theorem setDE_draws (s : State) (v : Word) : (s.setDE v).draws = s.draws := rfl

/-! ### State.setHL -/

@[simp] theorem setHL_pc (s : State) (v : Word) : (s.setHL v).pc = s.pc := rfl
@[simp] theorem setHL_sp (s : State) (v : Word) : (s.setHL v).sp = s.sp := rfl
@[simp] theorem setHL_flags (s : State) (v : Word) : (s.setHL v).flags = s.flags := rfl
@[simp] theorem setHL_ie (s : State) (v : Word) : (s.setHL v).ie = s.ie := rfl
@[simp] theorem setHL_lastCycles (s : State) (v : Word) : (s.setHL v).lastCycles = s.lastCycles := rfl
@[simp] theorem setHL_halted (s : State) (v : Word) : (s.setHL v).halted = s.halted := rfl
@[simp] theorem setHL_mem (s : State) (v : Word) : (s.setHL v).mem = s.mem := rfl
@[simp] theorem setHL_cfg (s : State) (v : Word) : (s.setHL v).cfg = s.cfg := rfl
@[simp] theorem setHL_ioPresent (s : State) (v : Word) : (s.setHL v).ioPresent = s.ioPresent := rfl
@[simp] theorem setHL_ioLog (s : State) (v : Word) : (s.setHL v).ioLog = s.ioLog := rfl
@[simp] theorem setHL_draws (s : State) (v : Word) : (s.setHL v).draws = s.draws := rfl

/-! ### State.setPSW -/

@[simp] theorem setPSW_pc (s : State) (v : Word) : (s.setPSW v).pc = s.pc := rfl
@[simp] theorem setPSW_sp (s : State) (v : Word) : (s.setPSW v).sp = s.sp := rfl
@[simp] theorem setPSW_ie (s : State) (v : Word) : (s.setPSW v).ie = s.ie := rfl
@[simp] theorem setPSW_lastCycles (s : State) (v : Word) : (s.setPSW v).lastCycles = s.lastCycles := rfl
@[simp] theorem setPSW_halted (s : State) (v : Word) : (s.setPSW v).halted = s.halted := rfl
@[simp] theorem setPSW_mem (s : State) (v : Word) : (s.setPSW v).mem = s.mem := rfl
@[simp] theorem setPSW_cfg (s : State) (v : Word) : (s.setPSW v).cfg = s.cfg := rfl
@[simp] theorem setPSW_ioPresent (s : State) (v : Word) : (s.setPSW v).ioPresent = s.ioPresent := rfl
@[simp] theorem setPSW_ioLog (s : State) (v : Word) : (s.setPSW v).ioLog = s.ioLog := rfl
@[simp] theorem setPSW_draws (s : State) (v : Word) : (s.setPSW v).draws = s.draws := rfl

/-! ### State.push16 -/

@[simp] theorem push16_regs (s : State) (v : Word) : (s.push16 v).regs = s.regs := rfl
@[simp] theorem push16_pc (s : State) (v : Word) : (s.push16 v).pc = s.pc := rfl
@[simp] theorem push16_flags (s : State) (v : Word) : (s.push16 v).flags = s.flags := rfl
@[simp] theorem push16_ie (s : State) (v : Word) : (s.push16 v).ie = s.ie := rfl
@[simp] theorem push16_lastCycles (s : State) (v : Word) : (s.push16 v).lastCycles = s.lastCycles := rfl
@[simp] theorem push16_halted (s : State) (v : Word) : (s.push16 v).halted = s.halted := rfl
@[simp] theorem push16_cfg (s : State) (v : Word) : (s.push16 v).cfg = s.cfg := rfl
@[simp] theorem push16_ioPresent (s : State) (v : Word) : (s.push16 v).ioPresent = s.ioPresent := rfl
@[simp] theorem push16_ioLog (s : State) (v : Word) : (s.push16 v).ioLog = s.ioLog := rfl
@[simp] theorem push16_draws (s : State) (v : Word) : (s.push16 v).draws = s.draws := rfl

/-! ### State.drop16 -/

@[simp] theorem drop16_regs (s : State) : (s.drop16).regs = s.regs := rfl
@[simp] theorem drop16_pc (s : State) : (s.drop16).pc = s.pc := rfl
@[simp] theorem drop16_flags (s : State) : (s.drop16).flags = s.flags := rfl
@[simp] theorem drop16_ie (s : State) : (s.drop16).ie = s.ie := rfl
@[simp] theorem drop16_lastCycles (s : State) : (s.drop16).lastCycles = s.lastCycles := rfl
@[simp] theorem drop16_halted (s : State) : (s.drop16).halted = s.halted := rfl
@[simp] theorem drop16_mem (s : State) : (s.drop16).mem = s.mem := rfl
@[simp] theorem drop16_cfg (s : State) : (s.drop16).cfg = s.cfg := rfl
@[simp] theorem drop16_ioPresent (s : State) : (s.drop16).ioPresent = s.ioPresent := rfl
@[simp] theorem drop16_ioLog (s : State) : (s.drop16).ioLog = s.ioLog := rfl
@[simp] theorem drop16_draws (s : State) : (s.drop16).draws = s.draws := rfl

/-! ### State.enterInterrupt -/

@[simp] theorem enterInterrupt_regs (s : State) (n : Nat) : (s.enterInterrupt n).regs = s.regs := rfl
@[simp] theorem enterInterrupt_flags (s : State) (n : Nat) : (s.enterInterrupt n).flags = s.flags := rfl
@[simp] theorem enterInterrupt_lastCycles (s : State) (n : Nat) : (s.enterInterrupt n).lastCycles = s.lastCycles := rfl
@[simp] theorem enterInterrupt_halted (s : State) (n : Nat) : (s.enterInterrupt n).halted = s.halted := rfl
@[simp] theorem enterInterrupt_cfg (s : State) (n : Nat) : (s.enterInterrupt n).cfg = s.cfg := rfl
@[simp] theorem enterInterrupt_ioPresent (s : State) (n : Nat) : (s.enterInterrupt n).ioPresent = s.ioPresent := rfl
@[simp] theorem enterInterrupt_ioLog (s : State) (n : Nat) : (s.enterInterrupt n).ioLog = s.ioLog := rfl
@[simp] theorem enterInterrupt_draws (s : State) (n : Nat) : (s.enterInterrupt n).draws = s.draws := rfl

/-! ### What each update writes -/

@[simp] theorem setReg_regs (s : State) (r : Reg) (v : Byte) : (s.setReg r v).regs = s.regs.set r v := rfl
@[simp] theorem memWrite_mem (s : State) (a : Word) (v : Byte) : (s.memWrite a v).mem = memPut s.mem a.toNat v := rfl
@[simp] theorem setPSW_flags (s : State) (v : Word) : (s.setPSW v).flags = Flags.ofByte (loByte v) := rfl
@[simp] theorem push16_sp (s : State) (v : Word) : (s.push16 v).sp = s.sp - 2 := rfl
@[simp] theorem drop16_sp (s : State) : s.drop16.sp = s.sp + 2 := rfl
@[simp] theorem enterInterrupt_sp (s : State) (n : Nat) : (s.enterInterrupt n).sp = s.sp - 2 := rfl
@[simp] theorem enterInterrupt_pc (s : State) (n : Nat) : (s.enterInterrupt n).pc = BitVec.ofNat 16 (8 * n) := rfl
@[simp] theorem enterInterrupt_ie (s : State) (n : Nat) : (s.enterInterrupt n).ie = false := rfl

/-! ### Registers -/

theorem regs_get_set (g : Regs) (r r' : Reg) (v : Byte) : (g.set r v).get r' = if r' = r then v else g.get r' := by
  cases r <;> cases r' <;> rfl

@[simp] theorem regs_get_set_same (g : Regs) (r : Reg) (v : Byte) : (g.set r v).get r = v := by simp [regs_get_set]

theorem regs_get_set_other (g : Regs) {r r' : Reg} (h : r' ≠ r) (v : Byte) : (g.set r v).get r' = g.get r' := by
  simp [regs_get_set, h]

/-- Registers with the same value under every name are the same. -/
theorem regs_ext_get {g g' : Regs} (h : ∀ r, g.get r = g'.get r) : g = g' := by
  have ha := h .a; have hb := h .b; have hc := h .c; have hd := h .d; have he := h .e; have hh := h .h; have hl := h .l
  cases g; cases g'
  simp only [Regs.get] at ha hb hc hd he hh hl
  subst ha hb hc hd he hh hl
  rfl

@[simp] theorem reg_setReg_same (s : State) (r : Reg) (v : Byte) : (s.setReg r v).reg r = v := regs_get_set_same _ _ _

theorem reg_setReg (s : State) (r r' : Reg) (v : Byte) : (s.setReg r v).reg r' = if r' = r then v else s.reg r' :=
  regs_get_set _ _ _ _

@[simp] theorem reg_memWrite (s : State) (a : Word) (v : Byte) (r : Reg) : (s.memWrite a v).reg r = s.reg r := rfl
@[simp] theorem reg_push16 (s : State) (v : Word) (r : Reg) : (s.push16 v).reg r = s.reg r := rfl
@[simp] theorem reg_drop16 (s : State) (r : Reg) : s.drop16.reg r = s.reg r := rfl

end Sys2Proof.Machine
end

