-- ==== Sys2Proof/Laws/Memory.lean ====
section
/-! SUPPORT. The laws of the memory list: what is read after a write, and that every operation keeps the canonical
form. -/

namespace Sys2Proof.Machine

/-! ## Reading after writing -/

theorem memGet_memErase (m : List Host.Cell) (a b : Nat) :
    memGet (memErase m a) b = if b = a then 0x00 else memGet m b := by
  induction m with
  | nil => simp [memErase, memGet]
  | cons c m ih =>
    obtain ⟨k, v⟩ := c
    by_cases hk : k = a
    · subst hk
      by_cases hb : b = k
      · subst hb; simpa [memErase] using ih
      · simp [memErase, memGet, ih, hb, Ne.symm hb]
    · by_cases hb : b = a
      · subst hb; simp [memErase, memGet, ih, hk]
      · simp [memErase, memGet, ih, hk, hb]

theorem memGet_memInsert (m : List Host.Cell) (a b : Nat) (v : Byte)
    (hm : ∀ c ∈ m, c.1 ≠ a) : memGet (memInsert m a v) b = if b = a then v else memGet m b := by
  induction m with
  | nil =>
    by_cases hb : b = a
    · simp [memInsert, memGet, hb]
    · simp [memInsert, memGet, hb, Ne.symm hb]
  | cons c m ih =>
    obtain ⟨k, w⟩ := c
    have hk : k ≠ a := hm (k, w) (by simp)
    have ih' := ih (fun c hc => hm c (by simp [hc]))
    by_cases hlt : a < k
    · by_cases hb : b = a
      · subst hb; simp [memInsert, memGet, hlt]
      · simp [memInsert, memGet, hlt, hb, Ne.symm hb]
    · by_cases hb : b = a
      · subst hb; simp [memInsert, memGet, hlt, hk, ih']
      · simp [memInsert, memGet, hlt, ih', hb]

theorem memErase_free (m : List Host.Cell) (a : Nat) : ∀ c ∈ memErase m a, c.1 ≠ a := by
  induction m with
  | nil => simp [memErase]
  | cons c m ih =>
    obtain ⟨k, v⟩ := c
    by_cases hk : k = a
    · simpa [memErase, hk] using ih
    · simpa [memErase, hk] using ih

/-- A read after a write, for every list, canonical or not. -/
theorem memGet_memPut (m : List Host.Cell) (a b : Nat) (v : Byte) :
    memGet (memPut m a v) b = if b = a then v else memGet m b := by
  unfold memPut
  split
  · next hv => rw [memGet_memErase]; simp [hv]
  · rw [memGet_memInsert _ _ _ _ (memErase_free m a), memGet_memErase]
    split <;> simp_all

theorem memRead_memWrite (s : State) (a b : Word) (v : Byte) :
    (s.memWrite a v).memRead b = if b = a then v else s.memRead b := by
  simp [State.memRead, memGet_memPut, BitVec.toNat_inj]

@[simp] theorem memRead_memWrite_same (s : State) (a : Word) (v : Byte) : (s.memWrite a v).memRead a = v := by
  simp [memRead_memWrite]

theorem memRead_memWrite_other (s : State) {a b : Word} (h : b ≠ a) (v : Byte) :
    (s.memWrite a v).memRead b = s.memRead b := by
  simp [memRead_memWrite, h]

/-- Two states with the same memory read the same. -/
theorem memRead_congr {s t : State} (h : t.mem = s.mem) (a : Word) : t.memRead a = s.memRead a := by
  simp [State.memRead, h]

/-! ## The canonical form -/

theorem memCanonicalFrom_cons {lo k : Nat} {v : Byte} {m : List Host.Cell} :
    memCanonicalFrom lo ((k, v) :: m) = true ↔
      lo ≤ k ∧ k < 65536 ∧ v ≠ 0x00 ∧ memCanonicalFrom (k + 1) m = true := by
  simp [memCanonicalFrom, and_assoc]

theorem memCanonicalFrom_mono {lo lo' : Nat} (h : lo' ≤ lo) {m : List Host.Cell} (hm : memCanonicalFrom lo m = true) :
    memCanonicalFrom lo' m = true := by
  cases m with
  | nil => rfl
  | cons c m =>
    obtain ⟨h1, h2⟩ := memCanonicalFrom_cons.1 hm
    exact memCanonicalFrom_cons.2 ⟨by omega, h2⟩

theorem memErase_canonical {lo : Nat} {m : List Host.Cell} (a : Nat) (hm : memCanonicalFrom lo m = true) :
    memCanonicalFrom lo (memErase m a) = true := by
  induction m generalizing lo with
  | nil => rfl
  | cons c m ih =>
    obtain ⟨k, v⟩ := c
    obtain ⟨h1, h2, h3, h4⟩ := memCanonicalFrom_cons.1 hm
    by_cases hk : k = a
    · simp only [memErase, hk, if_true]
      exact memCanonicalFrom_mono (by omega) (ih h4)
    · simp only [memErase, hk, if_false]
      exact memCanonicalFrom_cons.2 ⟨h1, h2, h3, ih h4⟩

theorem memInsert_canonical {lo : Nat} {m : List Host.Cell} {a : Nat} {v : Byte} (ha : lo ≤ a) (hlt : a < 65536)
    (hv : v ≠ 0x00) (hfree : ∀ c ∈ m, c.1 ≠ a) (hm : memCanonicalFrom lo m = true) :
    memCanonicalFrom lo (memInsert m a v) = true := by
  induction m generalizing lo with
  | nil => exact memCanonicalFrom_cons.2 ⟨ha, hlt, hv, rfl⟩
  | cons c m ih =>
    obtain ⟨k, w⟩ := c
    have hk : k ≠ a := hfree (k, w) (by simp)
    obtain ⟨h1, h2, h3, h4⟩ := memCanonicalFrom_cons.1 hm
    by_cases hak : a < k
    · simp only [memInsert, hak, if_true]
      exact memCanonicalFrom_cons.2 ⟨ha, hlt, hv, memCanonicalFrom_cons.2 ⟨by omega, h2, h3, h4⟩⟩
    · simp only [memInsert, hak, if_false]
      exact memCanonicalFrom_cons.2 ⟨h1, h2, h3, ih (by omega) (fun c hc => hfree c (by simp [hc])) h4⟩

/-- A write below 65536 keeps the canonical form. -/
theorem memPut_wf {m : List Host.Cell} {a : Nat} (ha : a < 65536) (v : Byte) (hm : Memory.wf m = true) :
    Memory.wf (memPut m a v) = true := by
  unfold memPut
  split
  · exact memErase_canonical a hm
  · next hv => exact memInsert_canonical (Nat.zero_le a) ha hv (memErase_free m a) (memErase_canonical a hm)

theorem memWrite_wf (s : State) (a : Word) (v : Byte) (h : Memory.wf s.mem = true) :
    Memory.wf (s.memWrite a v).mem = true := memPut_wf a.isLt v h

theorem memWrite16_wf (s : State) (a v : Word) (h : Memory.wf s.mem = true) :
    Memory.wf (s.memWrite16 a v).mem = true := memWrite_wf _ _ _ (memWrite_wf _ _ _ h)

theorem push16_wf (s : State) (v : Word) (h : Memory.wf s.mem = true) : Memory.wf (s.push16 v).mem = true :=
  memWrite_wf _ _ _ (memWrite_wf _ _ _ h)

theorem memWriteList_wf (s : State) (a : Word) (bytes : List Byte) (h : Memory.wf s.mem = true) :
    Memory.wf (s.memWriteList a bytes).mem = true := by
  induction bytes generalizing s a with
  | nil => exact h
  | cons v bytes ih => exact ih _ _ (memWrite_wf _ _ _ h)

theorem reset_mem_wf : Memory.wf State.reset.mem = true := rfl

/-! ## The stack operations -/

theorem word_ne_add_one (a : Word) : a ≠ a + 1 := by bv_omega

theorem word_sub_ne (a : Word) : a - 1 ≠ a - 2 := by bv_omega

/-- What a push leaves in memory: the high byte at sp - 1, the low byte at sp - 2, the rest as before. -/
theorem memRead_push16 (s : State) (v a : Word) :
    (s.push16 v).memRead a = if a = s.sp - 2 then loByte v else if a = s.sp - 1 then hiByte v else s.memRead a := by
  have h : (s.push16 v).memRead a = ((s.memWrite (s.sp - 1) (hiByte v)).memWrite (s.sp - 2) (loByte v)).memRead a := rfl
  rw [h, memRead_memWrite, memRead_memWrite]

/-- What a 16-bit write leaves in memory. -/
theorem memRead_memWrite16 (s : State) (a v b : Word) :
    (s.memWrite16 a v).memRead b = if b = a + 1 then hiByte v else if b = a then loByte v else s.memRead b := by
  rw [State.memWrite16, memRead_memWrite, memRead_memWrite]

end Sys2Proof.Machine
end

