-- ==== Sys2Proof/Laws/Exec.lean ====
section
/-! SUPPORT. What the 256 arms of `exec` do, by form: `exec_eq` says once that every instruction answers the state of its rule's
effect, so that a proof about all instructions is a case split over the rules and not over the rows. -/

namespace Sys2Proof

open Machine

/-- The effect of a form, as the shared operation its meanings call. -/
def Form.effect (f : Form) (s : State) : State :=
  match f with
  | .nop | .nopAlias _ => s
  | .movRR dst src => s.move (.reg dst) (.reg src)
  | .movRM dst => s.move (.reg dst) .m
  | .movMR src => s.move .m (.reg src)
  | .mviR dst d8 => s.write8 (.reg dst) d8
  | .mviM d8 => s.write8 .m d8
  | .lxi p d16 => s.setPair p d16
  | .lda a16 => s.loadA a16
  | .sta a16 => s.storeA a16
  | .lhld a16 => s.loadHL a16
  | .shld a16 => s.storeHL a16
  | .ldax p => s.loadAIndirect p
  | .stax p => s.storeAIndirect p
  | .xchg => s.exchange
  | .alu op src => s.alu op (s.read8 src)
  | .aluImm op d8 => s.alu op d8
  | .inr dst => s.increment dst
  | .dcr dst => s.decrement dst
  | .inx p => s.incPair p
  | .dcx p => s.decPair p
  | .dad p => s.addPair p
  | .daa => s.decimalAdjust
  | .rlc => s.rotateLeft
  | .rrc => s.rotateRight
  | .ral => s.rotateLeftCarry
  | .rar => s.rotateRightCarry
  | .cma => s.complementA
  | .cmc => s.complementCarry
  | .stc => s.setCarry
  | .jmp a16 => s.jump a16
  | .jcc cond a16 => s.jumpIf cond a16
  | .call a16 => s.call a16
  | .ccc cond a16 => s.callIf cond a16
  | .ret => s.ret
  | .rcc cond => s.retIf cond
  | .rst n => s.restart n
  | .pchl => s.jumpHL
  | .push p => s.pushPair p
  | .pop p => s.popPair p
  | .xthl => s.exchangeTop
  | .sphl => s.loadSP
  | .inp port => s.input port
  | .outp port => s.output port
  | .ei => s.enableInterrupts
  | .di => s.disableInterrupts
  | .hlt => s.halt
  | .undocJmp a16 => s.undocJump a16
  | .undocRet => s.undocReturn
  | .undocCall _ a16 => s.undocCall a16

/-- Every instruction answers the state its rule's effect gives. -/
theorem exec_eq (i : Instr) (s : State) : exec i s = .next (i.form.effect s) := by
  cases i <;> rfl

/-- The row of a form has that form. -/
@[simp] theorem form_instr (f : Form) : f.instr.form = f := by
  cases f with
  | nopAlias n => revert n; decide
  | rst n => revert n; decide
  | movRR dst src => cases dst <;> cases src <;> rfl
  | movRM dst => cases dst <;> rfl
  | movMR src => cases src <;> rfl
  | mviR dst d8 => cases dst <;> rfl
  | alu op src => rcases src with r | _ <;> cases op <;> first | rfl | (cases r <;> rfl)
  | aluImm op d8 => cases op <;> rfl
  | inr dst => rcases dst with r | _ <;> first | rfl | (cases r <;> rfl)
  | dcr dst => rcases dst with r | _ <;> first | rfl | (cases r <;> rfl)
  | lxi p d16 => cases p <;> rfl
  | ldax p => cases p <;> rfl
  | stax p => cases p <;> rfl
  | inx p => cases p <;> rfl
  | dcx p => cases p <;> rfl
  | dad p => cases p <;> rfl
  | push p => cases p <;> rfl
  | pop p => cases p <;> rfl
  | jcc cond a16 => cases cond <;> rfl
  | ccc cond a16 => cases cond <;> rfl
  | rcc cond => cases cond <;> rfl
  | undocCall k a16 => cases k <;> rfl
  | _ => rfl

/-- The form of a row names that row. -/
@[simp] theorem instr_form (i : Instr) : i.form.instr = i := by
  cases i <;> rfl

/-- What `exec` answers for the row of a form. -/
theorem exec_instr (f : Form) (s : State) : exec f.instr s = .next (f.effect s) := by
  rw [exec_eq, form_instr]

/-- The one state `exec` can answer. -/
theorem exec_next {i : Instr} {s t : State} (h : exec i s = .next t) : t = i.form.effect s := by
  rw [exec_eq] at h
  exact (Host.Outcome.next.inj h).symm

end Sys2Proof
end

