-- ==== Sys2Proof/Laws/Ops.lean ====
section
/-! SUPPORT. What each shared operation does, said once: registers and pairs, the ALU as arithmetic on numbers, the stack, the
ports, the memory load and the step. -/

namespace Sys2Proof.Machine

/-! ## Registers and pairs -/

/-- Two states with the same registers. -/
theorem reg_congr {s t : State} (h : t.regs = s.regs) (r : Reg) : t.reg r = s.reg r := by simp [State.reg, h]

theorem reg_setPair (s : State) (p : Pair) (v : Word) (r : Reg) (hr : r ∉ p.regs) : (s.setPair p v).reg r = s.reg r := by
  cases p <;> cases r <;> first | rfl | exact absurd (by decide) hr

@[simp] theorem pair_setPair (s : State) (p : Pair) (v : Word) : (s.setPair p v).pair p = v := by
  cases p <;> first | rfl | exact cat_hiByte_loByte v

theorem reg_setStackPair (s : State) (p : StackPair) (v : Word) (r : Reg) (hr : r ∉ p.regs) :
    (s.setStackPair p v).reg r = s.reg r := by
  cases p <;> cases r <;> first | rfl | exact absurd (by decide) hr

/-! ## Flags and the ALU -/

theorem ofByte_toByte (f : Flags) : Flags.ofByte f.toByte = f := by
  obtain ⟨s, z, ac, p, cy⟩ := f
  cases s <;> cases z <;> cases ac <;> cases p <;> cases cy <;> rfl

theorem popcount_even (r : Byte) : (popcount r % 2 == 0) = evenOnes r := by
  simp only [popcount, evenOnes, List.range, List.range.loop, List.countP_cons, List.countP_nil]
  generalize r.getLsbD 0 = b0, r.getLsbD 1 = b1, r.getLsbD 2 = b2, r.getLsbD 3 = b3
  generalize r.getLsbD 4 = b4, r.getLsbD 5 = b5, r.getLsbD 6 = b6, r.getLsbD 7 = b7
  revert b0 b1 b2 b3 b4 b5 b6 b7
  decide

theorem sign_bit (r : Byte) : r.getLsbD 7 = decide (128 ≤ r.toNat) := by
  have h := BitVec.msb_eq_decide r
  rwa [BitVec.msb_eq_getLsbD_last] at h

/-- S, Z and P of a result, as `resultFlags` writes them. -/
theorem szp_eq (f : Flags) (r : Byte) : f.szp r = resultFlags r f.ac f.cy := by
  have hz : (r == 0) = decide (r.toNat = 0) := by
    rw [Bool.eq_iff_iff]; simp [← BitVec.toNat_inj]
  simp only [Flags.szp, resultFlags, popcount_even, sign_bit, hz]

theorem aluFlags_eq (o : AluOut) : o.flags = resultFlags o.r o.ac o.cy := szp_eq _ o.r

theorem lowNibble_eq (a : Byte) : lowNibble a = a.toNat % 16 := by
  simp only [lowNibble, BitVec.toNat_and]
  exact Nat.and_two_pow_sub_one_eq_mod a.toNat 4

/-- `add8` as arithmetic on numbers (R78). -/
theorem add8_eq (a b : Byte) (c : Bool) :
    add8 a b c = { r := BitVec.ofNat 8 (a.toNat + b.toNat + c.toNat)
                   cy := decide (256 ≤ a.toNat + b.toNat + c.toNat)
                   ac := decide (16 ≤ a.toNat % 16 + b.toNat % 16 + c.toNat) } := by
  simp only [add8, lowNibble_eq, AluOut.mk.injEq, decide_eq_decide, true_and]
  omega

/-- `sub8` as arithmetic on numbers (R79). -/
theorem sub8_eq (a b : Byte) (c : Bool) :
    sub8 a b c = { r := BitVec.ofNat 8 (a.toNat + 512 - b.toNat - c.toNat)
                   cy := decide (a.toNat < b.toNat + c.toNat)
                   ac := decide (b.toNat % 16 + c.toNat ≤ a.toNat % 16) } := by
  have ha := a.isLt
  have hb := b.isLt
  have hc := Bool.toNat_le c
  simp only [sub8, lowNibble_eq, AluOut.mk.injEq, decide_eq_decide, BitVec.toNat_not, true_and]
  constructor
  · apply BitVec.eq_of_toNat_eq
    simp only [BitVec.toNat_ofInt, BitVec.toNat_ofNat]
    omega
  · omega

/-- An addition into A (R80, R81). -/
theorem alu_add_eq (s : State) (b : Byte) :
    s.alu .add b = s.withResult (sumResult (s.reg .a).toNat b.toNat 0) ∧
    s.alu .adc b = s.withResult (sumResult (s.reg .a).toNat b.toNat s.flags.cy.toNat) := by
  constructor <;>
    simp [State.alu, aluCompute, aluWritesA, State.withResult, sumResult, aluFlags_eq, add8_eq]

/-- A subtraction from A (R82, R83). -/
theorem alu_sub_eq (s : State) (b : Byte) :
    s.alu .sub b = s.withResult (differenceResult (s.reg .a).toNat b.toNat 0) ∧
    s.alu .sbb b = s.withResult (differenceResult (s.reg .a).toNat b.toNat s.flags.cy.toNat) := by
  constructor <;>
    simp [State.alu, aluCompute, aluWritesA, State.withResult, differenceResult, aluFlags_eq, sub8_eq]

/-- A comparison with A: the flags only (R98). -/
theorem alu_cmp_eq (s : State) (b : Byte) :
    s.alu .cmp b = { s with flags := (differenceResult (s.reg .a).toNat b.toNat 0).2 } := by
  simp [State.alu, aluCompute, aluWritesA, differenceResult, aluFlags_eq, sub8_eq]

/-! ## 16-bit accesses and the stack -/

@[simp] theorem memRead16_memWrite16 (s : State) (a v : Word) : (s.memWrite16 a v).memRead16 a = v := by
  rw [State.memRead16, memRead_memWrite16, memRead_memWrite16]
  simp

theorem word_sub_two_add_one (a : Word) : a - 2 + 1 = a - 1 := by bv_omega

theorem word_sub_two_add_two (a : Word) : a - 2 + 2 = a := by bv_omega

/-- A pop finds the word the push before it left, at any sp. -/
@[simp] theorem top16_push16 (s : State) (v : Word) : (s.push16 v).top16 = v := by
  have h : (s.push16 v).top16 = cat ((s.push16 v).memRead (s.sp - 2 + 1)) ((s.push16 v).memRead (s.sp - 2)) := rfl
  rw [h, word_sub_two_add_one, memRead_push16, memRead_push16]
  simp

@[simp] theorem drop16_push16_sp (s : State) (v : Word) : (s.push16 v).drop16.sp = s.sp := word_sub_two_add_two s.sp

/-- A push writes memory and sp only. -/
theorem push16_eq (s : State) (v : Word) : s.push16 v = { s with mem := (s.push16 v).mem, sp := s.sp - 2 } := rfl

/-! ## The memory load -/

/-- A load writes memory only. -/
theorem memWriteList_eq (s : State) (a : Word) (bytes : List Byte) :
    s.memWriteList a bytes = { s with mem := (s.memWriteList a bytes).mem } := by
  induction bytes generalizing s a with
  | nil => rfl
  | cons v bytes ih => exact ih (s.memWrite a v) (a + 1)

/-- What a load that does not run past the top leaves in memory (R46). -/
theorem memRead_memWriteList (s : State) (a : Word) (bytes : List Byte) (h : a.toNat + bytes.length ≤ 65536) (b : Word) :
    (s.memWriteList a bytes).memRead b =
      if a.toNat ≤ b.toNat then (bytes[b.toNat - a.toNat]?).getD (s.memRead b) else s.memRead b := by
  induction bytes generalizing s a with
  | nil => simp [State.memWriteList]
  | cons v bytes ih =>
    have hl : (v :: bytes).length = bytes.length + 1 := rfl
    rw [State.memWriteList]
    cases bytes with
    | nil =>
      simp only [State.memWriteList, memRead_memWrite]
      by_cases hb : b = a
      · subst hb; simp
      · have hn : b.toNat ≠ a.toNat := fun hn => hb (BitVec.eq_of_toNat_eq hn)
        by_cases hle : a.toNat ≤ b.toNat
        · have hs : b.toNat - a.toNat = (b.toNat - a.toNat - 1) + 1 := by omega
          rw [hs]
          simp [hb]
        · simp [hb, hle]
    | cons w bytes =>
      have hl' : (w :: bytes).length = bytes.length + 1 := rfl
      have ha : (a + 1).toNat = a.toNat + 1 := by simp only [BitVec.toNat_add]; simp; omega
      rw [ih _ _ (by omega), ha, memRead_memWrite]
      by_cases hb : b = a
      · subst hb; simp
      · have hn : b.toNat ≠ a.toNat := fun hn => hb (BitVec.eq_of_toNat_eq hn)
        by_cases hle : a.toNat ≤ b.toNat
        · have hs : b.toNat - a.toNat = (b.toNat - (a.toNat + 1)) + 1 := by omega
          rw [hs]
          simp [hb, show a.toNat + 1 ≤ b.toNat by omega, hle]
        · simp [hb, hle, show ¬ a.toNat + 1 ≤ b.toNat by omega]

/-! ## The ports and the host's turn -/

/-- A port read, with a handler and without (R151, R153). -/
theorem portRead_cases (s : State) (port : Byte) :
    (s.ioPresent = true ∧ ∃ v : Byte, s.portRead port = { s.setReg .a v with ioLog := s.ioLog ++ [.read port v] }) ∨
    (s.ioPresent = false ∧ s.portRead port = s) := by
  cases h : s.ioPresent with
  | true => exact .inl ⟨rfl, Config.ioRead s s.draws port, by simp [State.portRead, h]⟩
  | false => exact .inr ⟨rfl, by simp [State.portRead, h]⟩

/-- A port write, with a handler and without (R152, R154). -/
theorem portWrite_cases (s : State) (port : Byte) :
    (s.ioPresent = true ∧ s.portWrite port = { s with ioLog := s.ioLog ++ [.write port (s.reg .a)] }) ∨
    (s.ioPresent = false ∧ s.portWrite port = s) := by
  cases h : s.ioPresent with
  | true => exact .inl ⟨rfl, by simp [State.portWrite, h]⟩
  | false => exact .inr ⟨rfl, by simp [State.portWrite, h]⟩

/-! ## The step -/

/-- The step in one equation. -/
theorem step_eq (s : State) :
    step s = if s.halted = true then .refused .stepWhileHalted
      else .next ((s.fetchInstr.1.form.effect s.fetchInstr.2).retire s.fetchInstr.1) := by
  have h : step s = if s.halted = true then .refused .stepWhileHalted
      else completeStep s.fetchInstr.1 (exec s.fetchInstr.1 s.fetchInstr.2) := rfl
  rw [h, exec_eq]
  rfl

/-- Everything a step that answers can do. -/
theorem step_next {s t : State} (h : step s = .next t) :
    s.halted = false ∧ t = (s.fetchInstr.1.form.effect s.fetchInstr.2).retire s.fetchInstr.1 := by
  rw [step_eq] at h
  split at h
  · cases h
  · next hs => exact ⟨by simpa using hs, (Host.Outcome.next.inj h).symm⟩

/-- Fetching moves pc and nothing else. -/
theorem fetchInstr_frame (s : State) : ∃ pc : Word, s.fetchInstr.2 = { s with pc := pc } := by
  simp only [State.fetchInstr]
  split <;> exact ⟨_, rfl⟩

end Sys2Proof.Machine
end

