-- ==== Sys2Proof/Laws/PerInstr.lean ====
section
/-! SUPPORT. Facts about every instruction as syntax, one lemma per constructor. -/

namespace Sys2Proof.Laws.WordShape

/-- An instruction of a machine has as many bytes as the length of its opcode byte says (R56). -/
def Statement (i : Instr) : Prop :=
  ∀ u : UndocAlias, i.wellFormed u = true → i.length = opcodeLength u i.opcode

/-- How every lemma below is shown: the opcode byte, the number of bytes, and the length of that byte under both settings. -/
theorem of_length {i : Instr} (op : Byte) (n : Nat) (ho : i.opcode = op) (hn : i.length = n)
    (h1 : opcodeLength .nop op = n) (h2 : opcodeLength .chip op = n) : Statement i := by
  intro u _
  cases u
  · rw [ho, hn, h1]
  · rw [ho, hn, h2]

/-- The same for a byte that carries an address under `chip` only. -/
theorem of_option {f : Option Word → Instr} (op : Byte) (ho : ∀ a, (f a).opcode = op)
    (hn : (f none).length = 1) (hs : ∀ w, (f (some w)).length = 3) (hw : ∀ u a, (f a).wellFormed u = u.admits a)
    (h1 : opcodeLength .nop op = 1) (h2 : opcodeLength .chip op = 3) (a : Option Word) : Statement (f a) := by
  intro u h
  rw [hw] at h
  cases u <;> cases a
  · rw [ho, hn, h1]
  · exact Bool.noConfusion h
  · exact Bool.noConfusion h
  · rw [ho, hs, h2]

theorem nop : Statement .nop := of_length 0x00 1 rfl rfl rfl rfl
theorem lxiB (d16 : Word) : Statement (.lxiB d16) := of_length 0x01 3 rfl rfl rfl rfl
theorem staxB : Statement .staxB := of_length 0x02 1 rfl rfl rfl rfl
theorem inxB : Statement .inxB := of_length 0x03 1 rfl rfl rfl rfl
theorem inrB : Statement .inrB := of_length 0x04 1 rfl rfl rfl rfl
theorem dcrB : Statement .dcrB := of_length 0x05 1 rfl rfl rfl rfl
theorem mviB (d8 : Byte) : Statement (.mviB d8) := of_length 0x06 2 rfl rfl rfl rfl
theorem rlc : Statement .rlc := of_length 0x07 1 rfl rfl rfl rfl
theorem nop08 : Statement .nop08 := of_length 0x08 1 rfl rfl rfl rfl
theorem dadB : Statement .dadB := of_length 0x09 1 rfl rfl rfl rfl
theorem ldaxB : Statement .ldaxB := of_length 0x0A 1 rfl rfl rfl rfl
theorem dcxB : Statement .dcxB := of_length 0x0B 1 rfl rfl rfl rfl
theorem inrC : Statement .inrC := of_length 0x0C 1 rfl rfl rfl rfl
theorem dcrC : Statement .dcrC := of_length 0x0D 1 rfl rfl rfl rfl
theorem mviC (d8 : Byte) : Statement (.mviC d8) := of_length 0x0E 2 rfl rfl rfl rfl
theorem rrc : Statement .rrc := of_length 0x0F 1 rfl rfl rfl rfl
theorem nop10 : Statement .nop10 := of_length 0x10 1 rfl rfl rfl rfl
theorem lxiD (d16 : Word) : Statement (.lxiD d16) := of_length 0x11 3 rfl rfl rfl rfl
theorem staxD : Statement .staxD := of_length 0x12 1 rfl rfl rfl rfl
theorem inxD : Statement .inxD := of_length 0x13 1 rfl rfl rfl rfl
theorem inrD : Statement .inrD := of_length 0x14 1 rfl rfl rfl rfl
theorem dcrD : Statement .dcrD := of_length 0x15 1 rfl rfl rfl rfl
theorem mviD (d8 : Byte) : Statement (.mviD d8) := of_length 0x16 2 rfl rfl rfl rfl
theorem ral : Statement .ral := of_length 0x17 1 rfl rfl rfl rfl
theorem nop18 : Statement .nop18 := of_length 0x18 1 rfl rfl rfl rfl
theorem dadD : Statement .dadD := of_length 0x19 1 rfl rfl rfl rfl
theorem ldaxD : Statement .ldaxD := of_length 0x1A 1 rfl rfl rfl rfl
theorem dcxD : Statement .dcxD := of_length 0x1B 1 rfl rfl rfl rfl
theorem inrE : Statement .inrE := of_length 0x1C 1 rfl rfl rfl rfl
theorem dcrE : Statement .dcrE := of_length 0x1D 1 rfl rfl rfl rfl
theorem mviE (d8 : Byte) : Statement (.mviE d8) := of_length 0x1E 2 rfl rfl rfl rfl
theorem rar : Statement .rar := of_length 0x1F 1 rfl rfl rfl rfl
theorem nop20 : Statement .nop20 := of_length 0x20 1 rfl rfl rfl rfl
theorem lxiH (d16 : Word) : Statement (.lxiH d16) := of_length 0x21 3 rfl rfl rfl rfl
theorem shld (a16 : Word) : Statement (.shld a16) := of_length 0x22 3 rfl rfl rfl rfl
theorem inxH : Statement .inxH := of_length 0x23 1 rfl rfl rfl rfl
theorem inrH : Statement .inrH := of_length 0x24 1 rfl rfl rfl rfl
theorem dcrH : Statement .dcrH := of_length 0x25 1 rfl rfl rfl rfl
theorem mviH (d8 : Byte) : Statement (.mviH d8) := of_length 0x26 2 rfl rfl rfl rfl
theorem daa : Statement .daa := of_length 0x27 1 rfl rfl rfl rfl
theorem nop28 : Statement .nop28 := of_length 0x28 1 rfl rfl rfl rfl
theorem dadH : Statement .dadH := of_length 0x29 1 rfl rfl rfl rfl
theorem lhld (a16 : Word) : Statement (.lhld a16) := of_length 0x2A 3 rfl rfl rfl rfl
theorem dcxH : Statement .dcxH := of_length 0x2B 1 rfl rfl rfl rfl
theorem inrL : Statement .inrL := of_length 0x2C 1 rfl rfl rfl rfl
theorem dcrL : Statement .dcrL := of_length 0x2D 1 rfl rfl rfl rfl
theorem mviL (d8 : Byte) : Statement (.mviL d8) := of_length 0x2E 2 rfl rfl rfl rfl
theorem cma : Statement .cma := of_length 0x2F 1 rfl rfl rfl rfl
theorem nop30 : Statement .nop30 := of_length 0x30 1 rfl rfl rfl rfl
theorem lxiSp (d16 : Word) : Statement (.lxiSp d16) := of_length 0x31 3 rfl rfl rfl rfl
theorem sta (a16 : Word) : Statement (.sta a16) := of_length 0x32 3 rfl rfl rfl rfl
theorem inxSp : Statement .inxSp := of_length 0x33 1 rfl rfl rfl rfl
theorem inrM : Statement .inrM := of_length 0x34 1 rfl rfl rfl rfl
theorem dcrM : Statement .dcrM := of_length 0x35 1 rfl rfl rfl rfl
theorem mviM (d8 : Byte) : Statement (.mviM d8) := of_length 0x36 2 rfl rfl rfl rfl
theorem stc : Statement .stc := of_length 0x37 1 rfl rfl rfl rfl
theorem nop38 : Statement .nop38 := of_length 0x38 1 rfl rfl rfl rfl
theorem dadSp : Statement .dadSp := of_length 0x39 1 rfl rfl rfl rfl
theorem lda (a16 : Word) : Statement (.lda a16) := of_length 0x3A 3 rfl rfl rfl rfl
theorem dcxSp : Statement .dcxSp := of_length 0x3B 1 rfl rfl rfl rfl
theorem inrA : Statement .inrA := of_length 0x3C 1 rfl rfl rfl rfl
theorem dcrA : Statement .dcrA := of_length 0x3D 1 rfl rfl rfl rfl
theorem mviA (d8 : Byte) : Statement (.mviA d8) := of_length 0x3E 2 rfl rfl rfl rfl
theorem cmc : Statement .cmc := of_length 0x3F 1 rfl rfl rfl rfl
theorem movBB : Statement .movBB := of_length 0x40 1 rfl rfl rfl rfl
theorem movBC : Statement .movBC := of_length 0x41 1 rfl rfl rfl rfl
theorem movBD : Statement .movBD := of_length 0x42 1 rfl rfl rfl rfl
theorem movBE : Statement .movBE := of_length 0x43 1 rfl rfl rfl rfl
theorem movBH : Statement .movBH := of_length 0x44 1 rfl rfl rfl rfl
theorem movBL : Statement .movBL := of_length 0x45 1 rfl rfl rfl rfl
theorem movBM : Statement .movBM := of_length 0x46 1 rfl rfl rfl rfl
theorem movBA : Statement .movBA := of_length 0x47 1 rfl rfl rfl rfl
theorem movCB : Statement .movCB := of_length 0x48 1 rfl rfl rfl rfl
theorem movCC : Statement .movCC := of_length 0x49 1 rfl rfl rfl rfl
theorem movCD : Statement .movCD := of_length 0x4A 1 rfl rfl rfl rfl
theorem movCE : Statement .movCE := of_length 0x4B 1 rfl rfl rfl rfl
theorem movCH : Statement .movCH := of_length 0x4C 1 rfl rfl rfl rfl
theorem movCL : Statement .movCL := of_length 0x4D 1 rfl rfl rfl rfl
theorem movCM : Statement .movCM := of_length 0x4E 1 rfl rfl rfl rfl
theorem movCA : Statement .movCA := of_length 0x4F 1 rfl rfl rfl rfl
theorem movDB : Statement .movDB := of_length 0x50 1 rfl rfl rfl rfl
theorem movDC : Statement .movDC := of_length 0x51 1 rfl rfl rfl rfl
theorem movDD : Statement .movDD := of_length 0x52 1 rfl rfl rfl rfl
theorem movDE : Statement .movDE := of_length 0x53 1 rfl rfl rfl rfl
theorem movDH : Statement .movDH := of_length 0x54 1 rfl rfl rfl rfl
theorem movDL : Statement .movDL := of_length 0x55 1 rfl rfl rfl rfl
theorem movDM : Statement .movDM := of_length 0x56 1 rfl rfl rfl rfl
theorem movDA : Statement .movDA := of_length 0x57 1 rfl rfl rfl rfl
theorem movEB : Statement .movEB := of_length 0x58 1 rfl rfl rfl rfl
theorem movEC : Statement .movEC := of_length 0x59 1 rfl rfl rfl rfl
theorem movED : Statement .movED := of_length 0x5A 1 rfl rfl rfl rfl
theorem movEE : Statement .movEE := of_length 0x5B 1 rfl rfl rfl rfl
theorem movEH : Statement .movEH := of_length 0x5C 1 rfl rfl rfl rfl
theorem movEL : Statement .movEL := of_length 0x5D 1 rfl rfl rfl rfl
theorem movEM : Statement .movEM := of_length 0x5E 1 rfl rfl rfl rfl
theorem movEA : Statement .movEA := of_length 0x5F 1 rfl rfl rfl rfl
theorem movHB : Statement .movHB := of_length 0x60 1 rfl rfl rfl rfl
theorem movHC : Statement .movHC := of_length 0x61 1 rfl rfl rfl rfl
theorem movHD : Statement .movHD := of_length 0x62 1 rfl rfl rfl rfl
theorem movHE : Statement .movHE := of_length 0x63 1 rfl rfl rfl rfl
theorem movHH : Statement .movHH := of_length 0x64 1 rfl rfl rfl rfl
theorem movHL : Statement .movHL := of_length 0x65 1 rfl rfl rfl rfl
theorem movHM : Statement .movHM := of_length 0x66 1 rfl rfl rfl rfl
theorem movHA : Statement .movHA := of_length 0x67 1 rfl rfl rfl rfl
theorem movLB : Statement .movLB := of_length 0x68 1 rfl rfl rfl rfl
theorem movLC : Statement .movLC := of_length 0x69 1 rfl rfl rfl rfl
theorem movLD : Statement .movLD := of_length 0x6A 1 rfl rfl rfl rfl
theorem movLE : Statement .movLE := of_length 0x6B 1 rfl rfl rfl rfl
theorem movLH : Statement .movLH := of_length 0x6C 1 rfl rfl rfl rfl
theorem movLL : Statement .movLL := of_length 0x6D 1 rfl rfl rfl rfl
theorem movLM : Statement .movLM := of_length 0x6E 1 rfl rfl rfl rfl
theorem movLA : Statement .movLA := of_length 0x6F 1 rfl rfl rfl rfl
theorem movMB : Statement .movMB := of_length 0x70 1 rfl rfl rfl rfl
theorem movMC : Statement .movMC := of_length 0x71 1 rfl rfl rfl rfl
theorem movMD : Statement .movMD := of_length 0x72 1 rfl rfl rfl rfl
theorem movME : Statement .movME := of_length 0x73 1 rfl rfl rfl rfl
theorem movMH : Statement .movMH := of_length 0x74 1 rfl rfl rfl rfl
theorem movML : Statement .movML := of_length 0x75 1 rfl rfl rfl rfl
theorem hlt : Statement .hlt := of_length 0x76 1 rfl rfl rfl rfl
theorem movMA : Statement .movMA := of_length 0x77 1 rfl rfl rfl rfl
theorem movAB : Statement .movAB := of_length 0x78 1 rfl rfl rfl rfl
theorem movAC : Statement .movAC := of_length 0x79 1 rfl rfl rfl rfl
theorem movAD : Statement .movAD := of_length 0x7A 1 rfl rfl rfl rfl
theorem movAE : Statement .movAE := of_length 0x7B 1 rfl rfl rfl rfl
theorem movAH : Statement .movAH := of_length 0x7C 1 rfl rfl rfl rfl
theorem movAL : Statement .movAL := of_length 0x7D 1 rfl rfl rfl rfl
theorem movAM : Statement .movAM := of_length 0x7E 1 rfl rfl rfl rfl
theorem movAA : Statement .movAA := of_length 0x7F 1 rfl rfl rfl rfl
theorem addB : Statement .addB := of_length 0x80 1 rfl rfl rfl rfl
theorem addC : Statement .addC := of_length 0x81 1 rfl rfl rfl rfl
theorem addD : Statement .addD := of_length 0x82 1 rfl rfl rfl rfl
theorem addE : Statement .addE := of_length 0x83 1 rfl rfl rfl rfl
theorem addH : Statement .addH := of_length 0x84 1 rfl rfl rfl rfl
theorem addL : Statement .addL := of_length 0x85 1 rfl rfl rfl rfl
theorem addM : Statement .addM := of_length 0x86 1 rfl rfl rfl rfl
theorem addA : Statement .addA := of_length 0x87 1 rfl rfl rfl rfl
theorem adcB : Statement .adcB := of_length 0x88 1 rfl rfl rfl rfl
theorem adcC : Statement .adcC := of_length 0x89 1 rfl rfl rfl rfl
theorem adcD : Statement .adcD := of_length 0x8A 1 rfl rfl rfl rfl
theorem adcE : Statement .adcE := of_length 0x8B 1 rfl rfl rfl rfl
theorem adcH : Statement .adcH := of_length 0x8C 1 rfl rfl rfl rfl
theorem adcL : Statement .adcL := of_length 0x8D 1 rfl rfl rfl rfl
theorem adcM : Statement .adcM := of_length 0x8E 1 rfl rfl rfl rfl
theorem adcA : Statement .adcA := of_length 0x8F 1 rfl rfl rfl rfl
theorem subB : Statement .subB := of_length 0x90 1 rfl rfl rfl rfl
theorem subC : Statement .subC := of_length 0x91 1 rfl rfl rfl rfl
theorem subD : Statement .subD := of_length 0x92 1 rfl rfl rfl rfl
theorem subE : Statement .subE := of_length 0x93 1 rfl rfl rfl rfl
theorem subH : Statement .subH := of_length 0x94 1 rfl rfl rfl rfl
theorem subL : Statement .subL := of_length 0x95 1 rfl rfl rfl rfl
theorem subM : Statement .subM := of_length 0x96 1 rfl rfl rfl rfl
theorem subA : Statement .subA := of_length 0x97 1 rfl rfl rfl rfl
theorem sbbB : Statement .sbbB := of_length 0x98 1 rfl rfl rfl rfl
theorem sbbC : Statement .sbbC := of_length 0x99 1 rfl rfl rfl rfl
theorem sbbD : Statement .sbbD := of_length 0x9A 1 rfl rfl rfl rfl
theorem sbbE : Statement .sbbE := of_length 0x9B 1 rfl rfl rfl rfl
theorem sbbH : Statement .sbbH := of_length 0x9C 1 rfl rfl rfl rfl
theorem sbbL : Statement .sbbL := of_length 0x9D 1 rfl rfl rfl rfl
theorem sbbM : Statement .sbbM := of_length 0x9E 1 rfl rfl rfl rfl
theorem sbbA : Statement .sbbA := of_length 0x9F 1 rfl rfl rfl rfl
theorem anaB : Statement .anaB := of_length 0xA0 1 rfl rfl rfl rfl
theorem anaC : Statement .anaC := of_length 0xA1 1 rfl rfl rfl rfl
theorem anaD : Statement .anaD := of_length 0xA2 1 rfl rfl rfl rfl
theorem anaE : Statement .anaE := of_length 0xA3 1 rfl rfl rfl rfl
theorem anaH : Statement .anaH := of_length 0xA4 1 rfl rfl rfl rfl
theorem anaL : Statement .anaL := of_length 0xA5 1 rfl rfl rfl rfl
theorem anaM : Statement .anaM := of_length 0xA6 1 rfl rfl rfl rfl
theorem anaA : Statement .anaA := of_length 0xA7 1 rfl rfl rfl rfl
theorem xraB : Statement .xraB := of_length 0xA8 1 rfl rfl rfl rfl
theorem xraC : Statement .xraC := of_length 0xA9 1 rfl rfl rfl rfl
theorem xraD : Statement .xraD := of_length 0xAA 1 rfl rfl rfl rfl
theorem xraE : Statement .xraE := of_length 0xAB 1 rfl rfl rfl rfl
theorem xraH : Statement .xraH := of_length 0xAC 1 rfl rfl rfl rfl
theorem xraL : Statement .xraL := of_length 0xAD 1 rfl rfl rfl rfl
theorem xraM : Statement .xraM := of_length 0xAE 1 rfl rfl rfl rfl
theorem xraA : Statement .xraA := of_length 0xAF 1 rfl rfl rfl rfl
theorem oraB : Statement .oraB := of_length 0xB0 1 rfl rfl rfl rfl
theorem oraC : Statement .oraC := of_length 0xB1 1 rfl rfl rfl rfl
theorem oraD : Statement .oraD := of_length 0xB2 1 rfl rfl rfl rfl
theorem oraE : Statement .oraE := of_length 0xB3 1 rfl rfl rfl rfl
theorem oraH : Statement .oraH := of_length 0xB4 1 rfl rfl rfl rfl
theorem oraL : Statement .oraL := of_length 0xB5 1 rfl rfl rfl rfl
theorem oraM : Statement .oraM := of_length 0xB6 1 rfl rfl rfl rfl
theorem oraA : Statement .oraA := of_length 0xB7 1 rfl rfl rfl rfl
theorem cmpB : Statement .cmpB := of_length 0xB8 1 rfl rfl rfl rfl
theorem cmpC : Statement .cmpC := of_length 0xB9 1 rfl rfl rfl rfl
theorem cmpD : Statement .cmpD := of_length 0xBA 1 rfl rfl rfl rfl
theorem cmpE : Statement .cmpE := of_length 0xBB 1 rfl rfl rfl rfl
theorem cmpH : Statement .cmpH := of_length 0xBC 1 rfl rfl rfl rfl
theorem cmpL : Statement .cmpL := of_length 0xBD 1 rfl rfl rfl rfl
theorem cmpM : Statement .cmpM := of_length 0xBE 1 rfl rfl rfl rfl
theorem cmpA : Statement .cmpA := of_length 0xBF 1 rfl rfl rfl rfl
theorem rnz : Statement .rnz := of_length 0xC0 1 rfl rfl rfl rfl
theorem popB : Statement .popB := of_length 0xC1 1 rfl rfl rfl rfl
theorem jnz (a16 : Word) : Statement (.jnz a16) := of_length 0xC2 3 rfl rfl rfl rfl
theorem jmp (a16 : Word) : Statement (.jmp a16) := of_length 0xC3 3 rfl rfl rfl rfl
theorem cnz (a16 : Word) : Statement (.cnz a16) := of_length 0xC4 3 rfl rfl rfl rfl
theorem pushB : Statement .pushB := of_length 0xC5 1 rfl rfl rfl rfl
theorem adi (d8 : Byte) : Statement (.adi d8) := of_length 0xC6 2 rfl rfl rfl rfl
theorem rst0 : Statement .rst0 := of_length 0xC7 1 rfl rfl rfl rfl
theorem rz : Statement .rz := of_length 0xC8 1 rfl rfl rfl rfl
theorem ret : Statement .ret := of_length 0xC9 1 rfl rfl rfl rfl
theorem jz (a16 : Word) : Statement (.jz a16) := of_length 0xCA 3 rfl rfl rfl rfl
theorem undocCB (a16 : Option Word) : Statement (.undocCB a16) :=
  of_option 0xCB (fun _ => rfl) rfl (fun _ => rfl) (fun _ _ => rfl) rfl rfl a16
theorem cz (a16 : Word) : Statement (.cz a16) := of_length 0xCC 3 rfl rfl rfl rfl
theorem call (a16 : Word) : Statement (.call a16) := of_length 0xCD 3 rfl rfl rfl rfl
theorem aci (d8 : Byte) : Statement (.aci d8) := of_length 0xCE 2 rfl rfl rfl rfl
theorem rst1 : Statement .rst1 := of_length 0xCF 1 rfl rfl rfl rfl
theorem rnc : Statement .rnc := of_length 0xD0 1 rfl rfl rfl rfl
theorem popD : Statement .popD := of_length 0xD1 1 rfl rfl rfl rfl
theorem jnc (a16 : Word) : Statement (.jnc a16) := of_length 0xD2 3 rfl rfl rfl rfl
theorem outp (d8 : Byte) : Statement (.outp d8) := of_length 0xD3 2 rfl rfl rfl rfl
theorem cnc (a16 : Word) : Statement (.cnc a16) := of_length 0xD4 3 rfl rfl rfl rfl
theorem pushD : Statement .pushD := of_length 0xD5 1 rfl rfl rfl rfl
theorem sui (d8 : Byte) : Statement (.sui d8) := of_length 0xD6 2 rfl rfl rfl rfl
theorem rst2 : Statement .rst2 := of_length 0xD7 1 rfl rfl rfl rfl
theorem rc : Statement .rc := of_length 0xD8 1 rfl rfl rfl rfl
theorem undocD9 : Statement .undocD9 := of_length 0xD9 1 rfl rfl rfl rfl
theorem jc (a16 : Word) : Statement (.jc a16) := of_length 0xDA 3 rfl rfl rfl rfl
theorem inp (d8 : Byte) : Statement (.inp d8) := of_length 0xDB 2 rfl rfl rfl rfl
theorem cc (a16 : Word) : Statement (.cc a16) := of_length 0xDC 3 rfl rfl rfl rfl
theorem undocDD (a16 : Option Word) : Statement (.undocDD a16) :=
  of_option 0xDD (fun _ => rfl) rfl (fun _ => rfl) (fun _ _ => rfl) rfl rfl a16
theorem sbi (d8 : Byte) : Statement (.sbi d8) := of_length 0xDE 2 rfl rfl rfl rfl
theorem rst3 : Statement .rst3 := of_length 0xDF 1 rfl rfl rfl rfl
theorem rpo : Statement .rpo := of_length 0xE0 1 rfl rfl rfl rfl
theorem popH : Statement .popH := of_length 0xE1 1 rfl rfl rfl rfl
theorem jpo (a16 : Word) : Statement (.jpo a16) := of_length 0xE2 3 rfl rfl rfl rfl
theorem xthl : Statement .xthl := of_length 0xE3 1 rfl rfl rfl rfl
theorem cpo (a16 : Word) : Statement (.cpo a16) := of_length 0xE4 3 rfl rfl rfl rfl
theorem pushH : Statement .pushH := of_length 0xE5 1 rfl rfl rfl rfl
theorem ani (d8 : Byte) : Statement (.ani d8) := of_length 0xE6 2 rfl rfl rfl rfl
theorem rst4 : Statement .rst4 := of_length 0xE7 1 rfl rfl rfl rfl
theorem rpe : Statement .rpe := of_length 0xE8 1 rfl rfl rfl rfl
theorem pchl : Statement .pchl := of_length 0xE9 1 rfl rfl rfl rfl
theorem jpe (a16 : Word) : Statement (.jpe a16) := of_length 0xEA 3 rfl rfl rfl rfl
theorem xchg : Statement .xchg := of_length 0xEB 1 rfl rfl rfl rfl
theorem cpe (a16 : Word) : Statement (.cpe a16) := of_length 0xEC 3 rfl rfl rfl rfl
theorem undocED (a16 : Option Word) : Statement (.undocED a16) :=
  of_option 0xED (fun _ => rfl) rfl (fun _ => rfl) (fun _ _ => rfl) rfl rfl a16
theorem xri (d8 : Byte) : Statement (.xri d8) := of_length 0xEE 2 rfl rfl rfl rfl
theorem rst5 : Statement .rst5 := of_length 0xEF 1 rfl rfl rfl rfl
theorem rp : Statement .rp := of_length 0xF0 1 rfl rfl rfl rfl
theorem popPsw : Statement .popPsw := of_length 0xF1 1 rfl rfl rfl rfl
theorem jp (a16 : Word) : Statement (.jp a16) := of_length 0xF2 3 rfl rfl rfl rfl
theorem di : Statement .di := of_length 0xF3 1 rfl rfl rfl rfl
theorem cp (a16 : Word) : Statement (.cp a16) := of_length 0xF4 3 rfl rfl rfl rfl
theorem pushPsw : Statement .pushPsw := of_length 0xF5 1 rfl rfl rfl rfl
theorem ori (d8 : Byte) : Statement (.ori d8) := of_length 0xF6 2 rfl rfl rfl rfl
theorem rst6 : Statement .rst6 := of_length 0xF7 1 rfl rfl rfl rfl
theorem rm : Statement .rm := of_length 0xF8 1 rfl rfl rfl rfl
theorem sphl : Statement .sphl := of_length 0xF9 1 rfl rfl rfl rfl
theorem jm (a16 : Word) : Statement (.jm a16) := of_length 0xFA 3 rfl rfl rfl rfl
theorem ei : Statement .ei := of_length 0xFB 1 rfl rfl rfl rfl
theorem cm (a16 : Word) : Statement (.cm a16) := of_length 0xFC 3 rfl rfl rfl rfl
theorem undocFD (a16 : Option Word) : Statement (.undocFD a16) :=
  of_option 0xFD (fun _ => rfl) rfl (fun _ => rfl) (fun _ _ => rfl) rfl rfl a16
theorem cpi (d8 : Byte) : Statement (.cpi d8) := of_length 0xFE 2 rfl rfl rfl rfl
theorem rst7 : Statement .rst7 := of_length 0xFF 1 rfl rfl rfl rfl

end Sys2Proof.Laws.WordShape
end

