-- ==== Sys2Proof/Tests/Slice0.lean ====
section
/-! SUPPORT. Tests of the model against spec/30_encoding.md, spec/opcode_table.json and spec/95_test_vectors.md (a vector is cited by its
number there), and a witness for the hypotheses of every statement that has some. -/

namespace Sys2Proof.Tests

open Sys2Proof.Machine

/-! ## Well-formedness: an ill-formed term for each of the four bytes the check concerns, under each setting -/

theorem test_wf_refuses_address_under_nop :
    [Instr.undocCB (some 0x1000), .undocDD (some 0x1000), .undocED (some 0x1000), .undocFD (some 0x1000)].all
      (fun i => !i.wellFormed .nop) = true := by decide

theorem test_wf_refuses_no_address_under_chip :
    [Instr.undocCB none, .undocDD none, .undocED none, .undocFD none].all (fun i => !i.wellFormed .chip) = true := by decide

theorem test_wf_accepts :
    [Instr.undocCB none, .undocFD none, .undocD9, .nop, .lxiB 0xFFFF].all (fun i => i.wellFormed .nop) = true ∧
    [Instr.undocCB (some 0xFFFF), .undocFD (some 0), .undocD9].all (fun i => i.wellFormed .chip) = true := by decide

/-! ## Decoding: every row of spec/opcode_table.json, its bits as the table writes them; 0x34 and 0x12 follow -/

theorem test_decode_row_0 :
    [[0b00000000], [0b00000001, 0x34, 0x12], [0b00000010], [0b00000011], [0b00000100], [0b00000101],
      [0b00000110, 0x34], [0b00000111], [0b00001000], [0b00001001], [0b00001010], [0b00001011], [0b00001100],
      [0b00001101], [0b00001110, 0x34], [0b00001111]].map (decode .nop) =
    ([.nop, .lxiB 0x1234, .staxB, .inxB, .inrB, .dcrB, .mviB 0x34, .rlc, .nop08, .dadB, .ldaxB, .dcxB, .inrC,
      .dcrC, .mviC 0x34, .rrc] : List Instr).map (fun i => .instr i []) := by decide

theorem test_decode_row_1 :
    [[0b00010000], [0b00010001, 0x34, 0x12], [0b00010010], [0b00010011], [0b00010100], [0b00010101],
      [0b00010110, 0x34], [0b00010111], [0b00011000], [0b00011001], [0b00011010], [0b00011011], [0b00011100],
      [0b00011101], [0b00011110, 0x34], [0b00011111]].map (decode .nop) =
    ([.nop10, .lxiD 0x1234, .staxD, .inxD, .inrD, .dcrD, .mviD 0x34, .ral, .nop18, .dadD, .ldaxD, .dcxD, .inrE,
      .dcrE, .mviE 0x34, .rar] : List Instr).map (fun i => .instr i []) := by decide

theorem test_decode_row_2 :
    [[0b00100000], [0b00100001, 0x34, 0x12], [0b00100010, 0x34, 0x12], [0b00100011], [0b00100100], [0b00100101],
      [0b00100110, 0x34], [0b00100111], [0b00101000], [0b00101001], [0b00101010, 0x34, 0x12], [0b00101011],
      [0b00101100], [0b00101101], [0b00101110, 0x34], [0b00101111]].map (decode .nop) =
    ([.nop20, .lxiH 0x1234, .shld 0x1234, .inxH, .inrH, .dcrH, .mviH 0x34, .daa, .nop28, .dadH, .lhld 0x1234,
      .dcxH, .inrL, .dcrL, .mviL 0x34, .cma] : List Instr).map (fun i => .instr i []) := by decide

theorem test_decode_row_3 :
    [[0b00110000], [0b00110001, 0x34, 0x12], [0b00110010, 0x34, 0x12], [0b00110011], [0b00110100], [0b00110101],
      [0b00110110, 0x34], [0b00110111], [0b00111000], [0b00111001], [0b00111010, 0x34, 0x12], [0b00111011],
      [0b00111100], [0b00111101], [0b00111110, 0x34], [0b00111111]].map (decode .nop) =
    ([.nop30, .lxiSp 0x1234, .sta 0x1234, .inxSp, .inrM, .dcrM, .mviM 0x34, .stc, .nop38, .dadSp, .lda 0x1234,
      .dcxSp, .inrA, .dcrA, .mviA 0x34, .cmc] : List Instr).map (fun i => .instr i []) := by decide

theorem test_decode_row_4 :
    [[0b01000000], [0b01000001], [0b01000010], [0b01000011], [0b01000100], [0b01000101], [0b01000110],
      [0b01000111], [0b01001000], [0b01001001], [0b01001010], [0b01001011], [0b01001100], [0b01001101],
      [0b01001110], [0b01001111]].map (decode .nop) =
    ([.movBB, .movBC, .movBD, .movBE, .movBH, .movBL, .movBM, .movBA, .movCB, .movCC, .movCD, .movCE, .movCH,
      .movCL, .movCM, .movCA] : List Instr).map (fun i => .instr i []) := by decide

theorem test_decode_row_5 :
    [[0b01010000], [0b01010001], [0b01010010], [0b01010011], [0b01010100], [0b01010101], [0b01010110],
      [0b01010111], [0b01011000], [0b01011001], [0b01011010], [0b01011011], [0b01011100], [0b01011101],
      [0b01011110], [0b01011111]].map (decode .nop) =
    ([.movDB, .movDC, .movDD, .movDE, .movDH, .movDL, .movDM, .movDA, .movEB, .movEC, .movED, .movEE, .movEH,
      .movEL, .movEM, .movEA] : List Instr).map (fun i => .instr i []) := by decide

theorem test_decode_row_6 :
    [[0b01100000], [0b01100001], [0b01100010], [0b01100011], [0b01100100], [0b01100101], [0b01100110],
      [0b01100111], [0b01101000], [0b01101001], [0b01101010], [0b01101011], [0b01101100], [0b01101101],
      [0b01101110], [0b01101111]].map (decode .nop) =
    ([.movHB, .movHC, .movHD, .movHE, .movHH, .movHL, .movHM, .movHA, .movLB, .movLC, .movLD, .movLE, .movLH,
      .movLL, .movLM, .movLA] : List Instr).map (fun i => .instr i []) := by decide

theorem test_decode_row_7 :
    [[0b01110000], [0b01110001], [0b01110010], [0b01110011], [0b01110100], [0b01110101], [0b01110110],
      [0b01110111], [0b01111000], [0b01111001], [0b01111010], [0b01111011], [0b01111100], [0b01111101],
      [0b01111110], [0b01111111]].map (decode .nop) =
    ([.movMB, .movMC, .movMD, .movME, .movMH, .movML, .hlt, .movMA, .movAB, .movAC, .movAD, .movAE, .movAH,
      .movAL, .movAM, .movAA] : List Instr).map (fun i => .instr i []) := by decide

theorem test_decode_row_8 :
    [[0b10000000], [0b10000001], [0b10000010], [0b10000011], [0b10000100], [0b10000101], [0b10000110],
      [0b10000111], [0b10001000], [0b10001001], [0b10001010], [0b10001011], [0b10001100], [0b10001101],
      [0b10001110], [0b10001111]].map (decode .nop) =
    ([.addB, .addC, .addD, .addE, .addH, .addL, .addM, .addA, .adcB, .adcC, .adcD, .adcE, .adcH, .adcL, .adcM,
      .adcA] : List Instr).map (fun i => .instr i []) := by decide

theorem test_decode_row_9 :
    [[0b10010000], [0b10010001], [0b10010010], [0b10010011], [0b10010100], [0b10010101], [0b10010110],
      [0b10010111], [0b10011000], [0b10011001], [0b10011010], [0b10011011], [0b10011100], [0b10011101],
      [0b10011110], [0b10011111]].map (decode .nop) =
    ([.subB, .subC, .subD, .subE, .subH, .subL, .subM, .subA, .sbbB, .sbbC, .sbbD, .sbbE, .sbbH, .sbbL, .sbbM,
      .sbbA] : List Instr).map (fun i => .instr i []) := by decide

theorem test_decode_row_A :
    [[0b10100000], [0b10100001], [0b10100010], [0b10100011], [0b10100100], [0b10100101], [0b10100110],
      [0b10100111], [0b10101000], [0b10101001], [0b10101010], [0b10101011], [0b10101100], [0b10101101],
      [0b10101110], [0b10101111]].map (decode .nop) =
    ([.anaB, .anaC, .anaD, .anaE, .anaH, .anaL, .anaM, .anaA, .xraB, .xraC, .xraD, .xraE, .xraH, .xraL, .xraM,
      .xraA] : List Instr).map (fun i => .instr i []) := by decide

theorem test_decode_row_B :
    [[0b10110000], [0b10110001], [0b10110010], [0b10110011], [0b10110100], [0b10110101], [0b10110110],
      [0b10110111], [0b10111000], [0b10111001], [0b10111010], [0b10111011], [0b10111100], [0b10111101],
      [0b10111110], [0b10111111]].map (decode .nop) =
    ([.oraB, .oraC, .oraD, .oraE, .oraH, .oraL, .oraM, .oraA, .cmpB, .cmpC, .cmpD, .cmpE, .cmpH, .cmpL, .cmpM,
      .cmpA] : List Instr).map (fun i => .instr i []) := by decide

theorem test_decode_row_C :
    [[0b11000000], [0b11000001], [0b11000010, 0x34, 0x12], [0b11000011, 0x34, 0x12], [0b11000100, 0x34, 0x12],
      [0b11000101], [0b11000110, 0x34], [0b11000111], [0b11001000], [0b11001001], [0b11001010, 0x34, 0x12],
      [0b11001011], [0b11001100, 0x34, 0x12], [0b11001101, 0x34, 0x12], [0b11001110, 0x34], [0b11001111]].map (decode .nop) =
    ([.rnz, .popB, .jnz 0x1234, .jmp 0x1234, .cnz 0x1234, .pushB, .adi 0x34, .rst0, .rz, .ret, .jz 0x1234,
      .undocCB none, .cz 0x1234, .call 0x1234, .aci 0x34, .rst1] : List Instr).map (fun i => .instr i []) := by decide

theorem test_decode_row_D :
    [[0b11010000], [0b11010001], [0b11010010, 0x34, 0x12], [0b11010011, 0x34], [0b11010100, 0x34, 0x12],
      [0b11010101], [0b11010110, 0x34], [0b11010111], [0b11011000], [0b11011001], [0b11011010, 0x34, 0x12],
      [0b11011011, 0x34], [0b11011100, 0x34, 0x12], [0b11011101], [0b11011110, 0x34], [0b11011111]].map (decode .nop) =
    ([.rnc, .popD, .jnc 0x1234, .outp 0x34, .cnc 0x1234, .pushD, .sui 0x34, .rst2, .rc, .undocD9, .jc 0x1234,
      .inp 0x34, .cc 0x1234, .undocDD none, .sbi 0x34, .rst3] : List Instr).map (fun i => .instr i []) := by decide

theorem test_decode_row_E :
    [[0b11100000], [0b11100001], [0b11100010, 0x34, 0x12], [0b11100011], [0b11100100, 0x34, 0x12], [0b11100101],
      [0b11100110, 0x34], [0b11100111], [0b11101000], [0b11101001], [0b11101010, 0x34, 0x12], [0b11101011],
      [0b11101100, 0x34, 0x12], [0b11101101], [0b11101110, 0x34], [0b11101111]].map (decode .nop) =
    ([.rpo, .popH, .jpo 0x1234, .xthl, .cpo 0x1234, .pushH, .ani 0x34, .rst4, .rpe, .pchl, .jpe 0x1234, .xchg,
      .cpe 0x1234, .undocED none, .xri 0x34, .rst5] : List Instr).map (fun i => .instr i []) := by decide

theorem test_decode_row_F :
    [[0b11110000], [0b11110001], [0b11110010, 0x34, 0x12], [0b11110011], [0b11110100, 0x34, 0x12], [0b11110101],
      [0b11110110, 0x34], [0b11110111], [0b11111000], [0b11111001], [0b11111010, 0x34, 0x12], [0b11111011],
      [0b11111100, 0x34, 0x12], [0b11111101], [0b11111110, 0x34], [0b11111111]].map (decode .nop) =
    ([.rp, .popPsw, .jp 0x1234, .di, .cp 0x1234, .pushPsw, .ori 0x34, .rst6, .rm, .sphl, .jm 0x1234, .ei,
      .cm 0x1234, .undocFD none, .cpi 0x34, .rst7] : List Instr).map (fun i => .instr i []) := by decide

/-- Under `chip` the four undocumented bytes that become JMP and CALL take an address, and 0xD9 takes none (R161). -/
theorem test_decode_chip :
    [[0xCB, 0x34, 0x12], [0xDD, 0x34, 0x12], [0xED, 0x34, 0x12], [0xFD, 0x34, 0x12], [0xD9]].map (decode .chip) =
    ([.undocCB (some 0x1234), .undocDD (some 0x1234), .undocED (some 0x1234), .undocFD (some 0x1234), .undocD9] : List Instr).map
      (fun i => .instr i []) := by decide

/-- A list that ends too early is refused by name. -/
theorem test_decode_refuses :
    decode .nop [] = .refused .noOpcode ∧ decode .nop [0x3E] = .refused (.truncated 0x3E) ∧
    decode .nop [0xC3, 0x00] = .refused (.truncated 0xC3) ∧ decode .chip [0xCB] = .refused (.truncated 0xCB) := by decide

/-- How many of the 256 opcode bytes have a given length. -/
def countLength (u : UndocAlias) (n : Nat) : Nat := (List.range 256).countP (fun k => opcodeLength u (BitVec.ofNat 8 k) == n)

set_option maxRecDepth 20000 in
/-- M1: 212, 18 and 26 bytes of length 1, 2 and 3 under `nop`. -/
theorem test_lengths_nop : [1, 2, 3].map (countLength .nop) = [212, 18, 26] := by decide

set_option maxRecDepth 20000 in
/-- M2: 208, 18 and 30 under `chip`. -/
theorem test_lengths_chip : [1, 2, 3].map (countLength .chip) = [208, 18, 30] := by decide

/-- The host's two names, on LXI H with the bits of its row and operand words of zeros. -/
theorem test_table_word :
    decodeTableWord 8 0x21 = some (.lxiH 0) ∧ decodeTableWord 24 0x123421 = some (.lxiH 0x1234) ∧
    decodeTableWord 8 0x76 = some .hlt := by decide

/-! ## Steps -/

/-- A machine like `State.reset` with `bytes` at `pc` and a stack at 0x2400. -/
def at_ (pc : Word) (bytes : List Byte) : State := { State.reset with pc := pc, sp := 0x2400 }.memWriteList pc bytes

/-- Whether an answer is a next state with a property. -/
def after (r : Answer) (f : State → Bool) : Bool :=
  match r with
  | .next t => f t
  | .fault _ => false
  | .refused _ => false

/-- Whether an answer is a given refusal. -/
def refuses (r : Answer) (q : Refusal) : Bool :=
  match r with
  | .next _ => false
  | .fault _ => false
  | .refused q' => q' == q

/-- A set of flags, from a flag byte. -/
def withF (f : Byte) (s : State) : State := { s with flags := Flags.ofByte f }

/-- S5: MVI A,5 at 0, then HLT. -/
theorem test_source_end_to_end :
    after (step (at_ 0x0000 [0x3E, 0x05, 0x76]))
      (fun t => t.reg .a == 0x05 && t.pc == 0x0002 && t.lastCycles == 7 && !t.halted) = true := by decide

/-- K22: HLT sets the latch and pc goes past it. -/
theorem test_halt :
    after (step (at_ 0x0100 [0x76]))
      (fun t => t.halted && t.pc == 0x0101 && t.lastCycles == 7) = true := by decide

/-- K23. -/
theorem test_step_while_halted :
    refuses (step { at_ 0x0100 [0x00] with halted := true }) .stepWhileHalted = true := by decide

/-- M6: the first step after construction, with nothing placed. -/
theorem test_first_step :
    after (step (State.reset))
      (fun t => t.pc == 0x0001 && t.lastCycles == 4) = true := by decide

/-- T3: the address register is overwritten by the byte it addressed. -/
theorem test_mov_h_m :
    after (step (((at_ 0x0100 [0x66]).setHL 0x2000).memWrite 0x2000 0x5A))
      (fun t => t.hl == 0x5A00) = true := by decide

/-- T7: the immediate byte of an instruction at 0xFFFF is at 0x0000. -/
theorem test_mvi_wraps :
    after (step (at_ 0xFFFF [0x06, 0x99]))
      (fun t => t.reg .b == 0x99 && t.pc == 0x0001) = true := by decide

/-- T11. -/
theorem test_lxi_wraps :
    after (step (at_ 0xFFFE [0x21, 0x34, 0x12]))
      (fun t => t.reg .h == 0x12 && t.reg .l == 0x34 && t.pc == 0x0001) = true := by decide

/-- T15. -/
theorem test_lhld_wraps :
    after (step (((at_ 0x0100 [0x2A, 0xFF, 0xFF]).memWrite 0xFFFF 0x11).memWrite 0x0000 0x22))
      (fun t => t.hl == 0x2211 && t.lastCycles == 16) = true := by decide

/-- T17. -/
theorem test_shld_wraps :
    after (step ((at_ 0x0100 [0x22, 0xFF, 0xFF]).setHL 0xABCD))
      (fun t => t.memRead 0x0000 == 0xAB && t.memRead 0xFFFF == 0xCD) = true := by decide

/-- T18. -/
theorem test_ldax_d :
    after (step (((at_ 0x0100 [0x1A]).setDE 0x6000).memWrite 0x6000 0x0F))
      (fun t => t.reg .a == 0x0F && t.lastCycles == 7) = true := by decide

/-- T19. -/
theorem test_stax_b :
    after (step (((at_ 0x0100 [0x02]).setBC 0x6001).setReg .a 0xE1))
      (fun t => t.memRead 0x6001 == 0xE1) = true := by decide

/-- T21: the store reaches the immediate of the next instruction. -/
theorem test_sta_self_modifies :
    after (step ((at_ 0x0100 [0x32, 0x04, 0x01, 0x06, 0x00]).setReg .a 0x2A))
      (fun t => t.bytesAt 0x0103 2 == [0x06, 0x2A]) = true := by decide

/-- T20. -/
theorem test_xchg :
    after (step (((at_ 0x0100 [0xEB]).setHL 0x1234).setDE 0xABCD))
      (fun t => t.de == 0x1234 && t.hl == 0xABCD) = true := by decide

/-- A4: source and destination are one register. -/
theorem test_add_a :
    after (step ((at_ 0x0100 [0x87]).setReg .a 0x88))
      (fun t => t.reg .a == 0x10 && t.flagByte == 0x13) = true := by decide

/-- A8. -/
theorem test_adc_carry_in_and_out :
    after (step (withF 0x03 (((at_ 0x0100 [0x88]).setReg .a 0xFF).setReg .b 0xFF)))
      (fun t => t.reg .a == 0xFF && t.flagByte == 0x97) = true := by decide

/-- A13: a borrow from bit 4 leaves AC 0. -/
theorem test_sub_nibble_borrow :
    after (step (((at_ 0x0100 [0x90]).setReg .a 0x10).setReg .b 0x01))
      (fun t => t.reg .a == 0x0F && t.flagByte == 0x06) = true := by decide

/-- A16. -/
theorem test_sbb_a :
    after (step (withF 0x03 ((at_ 0x0100 [0x9F]).setReg .a 0x37)))
      (fun t => t.reg .a == 0xFF && t.flagByte == 0x87) = true := by decide

/-- A17. -/
theorem test_sbb_ff_and_borrow :
    after (step (withF 0x03 (((at_ 0x0100 [0x98]).setReg .a 0x00).setReg .b 0xFF)))
      (fun t => t.reg .a == 0x00 && t.flagByte == 0x47) = true := by decide

/-- A21. -/
theorem test_sui_ignores_carry :
    after (step (withF 0x03 ((at_ 0x0100 [0xD6, 0x00]).setReg .a 0x37)))
      (fun t => t.reg .a == 0x37 && t.flagByte == 0x12) = true := by decide

/-- A25. -/
theorem test_inr_m :
    after (step (withF 0x03 (((at_ 0x0100 [0x34]).setHL 0x2000).memWrite 0x2000 0x7F)))
      (fun t => t.memRead 0x2000 == 0x80 && t.flagByte == 0x93 && t.lastCycles == 10) = true := by decide

/-- A29. -/
theorem test_dcr_m :
    after (step (((at_ 0x0100 [0x35]).setHL 0xFFFF).memWrite 0xFFFF 0x80))
      (fun t => t.memRead 0xFFFF == 0x7F && t.flagByte == 0x02) = true := by decide

/-- X1. -/
theorem test_inx_b :
    after (step ((at_ 0x0100 [0x03]).setBC 0x00FF))
      (fun t => t.bc == 0x0100 && t.lastCycles == 5) = true := by decide

/-- X6. -/
theorem test_dcx_sp :
    after (step ({ at_ 0x0100 [0x3B] with sp := 0x0000 }))
      (fun t => t.sp == 0xFFFF) = true := by decide

/-- X8. -/
theorem test_dad_h :
    after (step ((at_ 0x0100 [0x29]).setHL 0x8421))
      (fun t => t.hl == 0x0842 && t.flags.cy) = true := by decide

/-- X9. -/
theorem test_dad_sp :
    after (step (withF 0x03 ((at_ 0x0100 [0x39]).setHL 0x0010)))
      (fun t => t.hl == 0x2410 && !t.flags.cy) = true := by decide

/-- D5: both stages, and the carry of the untruncated sum. -/
theorem test_daa_9a :
    after (step ((at_ 0x0100 [0x27]).setReg .a 0x9A))
      (fun t => t.reg .a == 0x00 && t.flagByte == 0x57) = true := by decide

/-- D6. -/
theorem test_daa_fa :
    after (step ((at_ 0x0100 [0x27]).setReg .a 0xFA))
      (fun t => t.reg .a == 0x60 && t.flagByte == 0x17) = true := by decide

/-- L3: AC is bit 3 of the OR of the operands. -/
theorem test_ana_zero_with_ac :
    after (step (((at_ 0x0100 [0xA0]).setReg .a 0x0F).setReg .b 0x00))
      (fun t => t.reg .a == 0x00 && t.flagByte == 0x56) = true := by decide

/-- L6. -/
theorem test_xra_a :
    after (step (withF 0x13 ((at_ 0x0100 [0xAF]).setReg .a 0xA5)))
      (fun t => t.reg .a == 0x00 && t.flagByte == 0x46) = true := by decide

/-- L12: A stays. -/
theorem test_cmp_less :
    after (step (((at_ 0x0100 [0xB8]).setReg .a 0x02).setReg .b 0x05))
      (fun t => t.reg .a == 0x02 && t.flagByte == 0x83) = true := by decide

/-- L20. -/
theorem test_rlc :
    after (step ((at_ 0x0100 [0x07]).setReg .a 0xF2))
      (fun t => t.reg .a == 0xE5 && t.flags.cy) = true := by decide

/-- L23. -/
theorem test_rrc :
    after (step ((at_ 0x0100 [0x0F]).setReg .a 0x01))
      (fun t => t.reg .a == 0x80 && t.flags.cy) = true := by decide

/-- L25. -/
theorem test_ral :
    after (step (withF 0x03 ((at_ 0x0100 [0x17]).setReg .a 0x00)))
      (fun t => t.reg .a == 0x01 && !t.flags.cy) = true := by decide

/-- L26. -/
theorem test_rar :
    after (step (withF 0x03 ((at_ 0x0100 [0x1F]).setReg .a 0x6A)))
      (fun t => t.reg .a == 0xB5 && !t.flags.cy) = true := by decide

/-- L28. -/
theorem test_cma_keeps_flags :
    after (step (withF 0x02 ((at_ 0x0100 [0x2F]).setReg .a 0x51)))
      (fun t => t.reg .a == 0xAE && t.flagByte == 0x02) = true := by decide

/-- B3. -/
theorem test_jnz_taken :
    after (step (withF 0x02 (at_ 0x0100 [0xC2, 0x00, 0x03])))
      (fun t => t.pc == 0x0300 && t.lastCycles == 10) = true := by decide

/-- B4: pc goes past both operand bytes. -/
theorem test_jnz_not_taken :
    after (step (withF 0x42 (at_ 0x0100 [0xC2, 0x00, 0x03])))
      (fun t => t.pc == 0x0103 && t.lastCycles == 10) = true := by decide

/-- B20. -/
theorem test_call_sp_wraps :
    after (step ({ at_ 0x0100 [0xCD, 0x00, 0x10] with sp := 0x0001 }))
      (fun t => t.pc == 0x1000 && t.sp == 0xFFFF && t.memRead 0x0000 == 0x01 && t.memRead 0xFFFF == 0x03) = true := by decide

/-- M5: the return address of a CALL at 0xFFFF is 0x0002. -/
theorem test_call_at_the_top :
    after (step ({ at_ 0xFFFF [0xCD, 0x00, 0x20] with sp := 0x3000 }))
      (fun t => t.pc == 0x2000 && t.sp == 0x2FFE && t.memRead 0x2FFE == 0x02 && t.memRead 0x2FFF == 0x00) = true := by decide

/-- B23: the cost is that of COND_CYCLES = taken, whatever the condition. -/
theorem test_cnz_not_taken_cost :
    after (step (withF 0x42 (at_ 0x0100 [0xC4, 0x00, 0x03])))
      (fun t => t.pc == 0x0103 && t.sp == 0x2400 && t.lastCycles == 17) = true := by decide

/-- B42 under COND_CYCLES = not_taken: the cost is 5 although the return is taken. -/
theorem test_rz_cost_not_taken_setting :
    after (step (withF 0x42 { at_ 0x0100 [0xC8] with cfg := { undocAlias := .nop, condCycles := .notTaken } }))
      (fun t => t.pc == 0x0000 && t.sp == 0x2402 && t.lastCycles == 5) = true := by decide

/-- B39. -/
theorem test_ret_sp_wraps :
    after (step ({ at_ 0x0100 [0xC9] with sp := 0xFFFF }.memWriteList 0xFFFF [0x34, 0x12]))
      (fun t => t.pc == 0x1234 && t.sp == 0x0001) = true := by decide

/-- B63. -/
theorem test_rst_7 :
    after (step (at_ 0x0150 [0xFF]))
      (fun t => t.pc == 0x0038 && t.sp == 0x23FE && t.memRead 0x23FE == 0x51 && t.memRead 0x23FF == 0x01) = true := by decide

/-- B64. -/
theorem test_pchl :
    after (step ((at_ 0x0100 [0xE9]).setHL 0x4242))
      (fun t => t.pc == 0x4242 && t.lastCycles == 5) = true := by decide

/-- K5: all flags 1. -/
theorem test_push_psw :
    after (step (withF 0xD7 { at_ 0x0100 [0xF5] with sp := 0x2000 }))
      (fun t => t.sp == 0x1FFE && t.memRead 0x1FFE == 0xD7 && t.memRead 0x1FFF == 0x00) = true := by decide

/-- K3. -/
theorem test_push_h_wraps :
    after (step ({ at_ 0x0100 [0xE5] with sp := 0x0001 }.setHL 0xBEEF))
      (fun t => t.sp == 0xFFFF && t.memRead 0x0000 == 0xBE && t.memRead 0xFFFF == 0xEF) = true := by decide

/-- K11: the padding bits are discarded. -/
theorem test_pop_psw_padding :
    after (step (withF 0xD7 (({ at_ 0x0100 [0xF1] with sp := 0x2C00 }.memWrite 0x2C00 0x2A).memWrite 0x2C01 0x01)))
      (fun t => t.reg .a == 0x01 && t.flagByte == 0x02 && t.sp == 0x2C02) = true := by decide

/-- K8. -/
theorem test_pop_b_wraps :
    after (step (({ at_ 0x0100 [0xC1] with sp := 0xFFFF }.memWrite 0xFFFF 0x22).memWrite 0x0000 0x11))
      (fun t => t.bc == 0x1122 && t.sp == 0x0001) = true := by decide

/-- K13. -/
theorem test_xthl_wraps :
    after (step ((({ at_ 0x0100 [0xE3] with sp := 0xFFFF }.memWrite 0xFFFF 0x01).memWrite 0x0000 0x02).setHL 0xA0B0))
      (fun t => t.hl == 0x0201 && t.sp == 0xFFFF && t.memRead 0x0000 == 0xA0 && t.memRead 0xFFFF == 0xB0) = true := by decide

/-- K14. -/
theorem test_sphl :
    after (step ((at_ 0x0100 [0xF9]).setHL 0x506C))
      (fun t => t.sp == 0x506C) = true := by decide

/-- K15, without the byte the handler answers: pc, the cost, and one read in the log. -/
theorem test_in_with_handler :
    after (step ({ at_ 0x0100 [0xDB, 0x01] with ioPresent := true }))
      (fun t => t.pc == 0x0102 && t.lastCycles == 10 && t.ioLog.length == 1) = true := by decide

/-- K16. -/
theorem test_in_without_handler :
    after (step ((at_ 0x0100 [0xDB, 0x01]).setReg .a 0x77))
      (fun t => t.reg .a == 0x77 && t.pc == 0x0102 && t.ioLog == []) = true := by decide

/-- K17. -/
theorem test_out_with_handler :
    after (step ({ at_ 0x0100 [0xD3, 0x03] with ioPresent := true }.setReg .a 0x20))
      (fun t => t.pc == 0x0102 && t.ioLog == [.write 0x03 0x20]) = true := by decide

/-- K18. -/
theorem test_out_without_handler :
    after (step ((at_ 0x0100 [0xD3, 0x03]).setReg .a 0x20))
      (fun t => t.pc == 0x0102 && t.ioLog == []) = true := by decide

/-- K19. -/
theorem test_ei :
    after (step (at_ 0x0100 [0xFB]))
      (fun t => t.ie && t.lastCycles == 4) = true := by decide

/-- K21. -/
theorem test_di :
    after (step ({ at_ 0x0100 [0xF3] with ie := true }))
      (fun t => !t.ie) = true := by decide

/-- K26. -/
theorem test_nop_alias :
    after (step (at_ 0x0100 [0x38]))
      (fun t => t.pc == 0x0101 && t.lastCycles == 4) = true := by decide

/-- K27. -/
theorem test_cb_nop :
    after (step (at_ 0x0000 [0xCB, 0x00, 0x10]))
      (fun t => t.pc == 0x0001 && t.lastCycles == 4) = true := by decide

/-- K28. -/
theorem test_cb_chip :
    after (step ({ at_ 0x0000 [0xCB, 0x00, 0x10] with cfg := { undocAlias := .chip, condCycles := .taken } }))
      (fun t => t.pc == 0x1000 && t.lastCycles == 10) = true := by decide

/-- K29. -/
theorem test_d9_nop :
    after (step (at_ 0x0100 [0xD9]))
      (fun t => t.pc == 0x0101 && t.sp == 0x2400 && t.lastCycles == 4) = true := by decide

/-- K30. -/
theorem test_d9_chip :
    after (step ({ at_ 0x0100 [0xD9] with cfg := { undocAlias := .chip, condCycles := .taken } }.memWriteList 0x2400 [0x03, 0x01]))
      (fun t => t.pc == 0x0103 && t.sp == 0x2402 && t.lastCycles == 10) = true := by decide

/-- K32. -/
theorem test_ed_chip :
    after (step ({ at_ 0x0100 [0xED, 0x00, 0x10] with cfg := { undocAlias := .chip, condCycles := .taken } }))
      (fun t => t.pc == 0x1000 && t.sp == 0x23FE && t.memRead 0x23FE == 0x03 && t.lastCycles == 17) = true := by decide

/-! ## The host's operations -/

/-- I3: entry with N = 7; A and the flags stay and are not saved. -/
theorem test_interrupt :
    after (raiseInterrupt 7 (withF 0x83 { at_ 0x0045 [] with sp := 0x1000, ie := true, lastCycles := 9 }))
      (fun t => t.pc == 0x0038 && t.sp == 0x0FFE && !t.ie && t.memRead 0x0FFE == 0x45 && t.memRead 0x0FFF == 0x00 &&
        t.flagByte == 0x83 && t.lastCycles == 9) = true := by decide

/-- I5, I6, I7. -/
theorem test_interrupt_refusals :
    (refuses (raiseInterrupt 1 (at_ 0x0150 [])) .interruptWhileDisabled &&
      refuses (raiseInterrupt 8 { at_ 0x0150 [] with ie := true }) .vectorOutOfRange &&
      refuses (raiseInterrupt 1 { at_ 0x0151 [] with ie := true, halted := true }) .interruptWhileHalted) = true := by decide

/-- M3: a buffer that ends at 0xFFFF. -/
theorem test_load :
    after (load 0xFFFD [0x01, 0x02, 0x03] State.reset) (fun t => t.mem == [(0xFFFD, 0x01), (0xFFFE, 0x02), (0xFFFF, 0x03)]) = true := by decide

/-- M4. -/
theorem test_load_past_the_end :
    refuses (load 0xFFFE [0x01, 0x02, 0x03] State.reset) .loadPastEnd = true := by decide

/-- Writing 0x00 removes a cell, and the order of two writes leaves no trace. -/
theorem test_memory_is_canonical :
    (((State.reset.memWrite 0x0010 0x01).memWrite 0x0010 0x00).mem == [] &&
      ((State.reset.memWrite 0x0020 0x02).memWrite 0x0010 0x01).mem == ((State.reset.memWrite 0x0010 0x01).memWrite 0x0020 0x02).mem) = true := by decide

/-- The step after `withFetchWord` runs the word placed: MVI A,0x34. -/
theorem test_with_fetch_word :
    after (step (State.reset.withFetchWord 16 0x343E)) (fun t => t.reg .a == 0x34 && t.pc == 0x0002) = true := by decide

/-! ## Witnesses: states and operands that meet the hypotheses of the statements -/

/-- Hypothesis of `DecodeGivesBackEncoded`, under both settings. -/
theorem witness_DecodeGivesBackEncoded :
    (Instr.undocCB none).wellFormed .nop = true ∧ (Instr.undocCB (some 0xFFFF)).wellFormed .chip = true := by decide

/-- Hypothesis of `EncodeGivesBackDecoded`. -/
theorem witness_EncodeGivesBackDecoded : decode .nop [0xC3, 0x34, 0x12, 0x76] = .instr (.jmp 0x1234) [0x76] := by decide

/-- Hypotheses of `StepRunsTheDecodedInstruction`, for an instruction that wraps round 0xFFFF. -/
theorem witness_StepRunsTheDecodedInstruction :
    (at_ 0xFFFE [0x21, 0x34, 0x12]).halted = false ∧ (Instr.lxiH 0x1234).wellFormed .nop = true ∧
    (at_ 0xFFFE [0x21, 0x34, 0x12]).bytesAt 0xFFFE (Instr.lxiH 0x1234).length = encode (.lxiH 0x1234) := by decide

/-- Hypothesis of `StepAlwaysAnswers`. -/
theorem witness_StepAlwaysAnswers : State.reset.halted = false := by decide

/-- Hypothesis of `HaltedCoreHasNoTransition`. -/
theorem witness_HaltedCoreHasNoTransition : { State.reset with halted := true }.halted = true := by decide

/-- Hypothesis of `LastCyclesIsACostOfTheTable`, and with `State.reset.Inv` those of `StepKeepsInvariant`. -/
theorem witness_StepKeepsInvariant : State.reset.Inv ∧ ∃ t : State, step State.reset = .next t :=
  ⟨by decide, _, rfl⟩

/-- Hypotheses of `EveryRunKeepsInvariant`: a load, a step and an interrupt entry. -/
theorem witness_EveryRunKeepsInvariant :
    State.reset.Inv ∧ ∃ t : State, hostRun [.load 0x0000 [0xFB], .step true, .interrupt 7] State.reset = .next t :=
  ⟨by decide, _, rfl⟩

/-- Hypotheses of `RegisterFrame`, `FlagFrame` and `MemoryFrame`, at SHLD 0xFFFF: a register, a flag and an address outside what it
writes. -/
theorem witness_Frames :
    (∃ t : State, exec (.shld 0xFFFF) State.reset = .next t) ∧ Reg.h ∉ (Instr.shld 0xFFFF).form.regWrites ∧
    (Instr.shld 0xFFFF).form.flagWrites.s = false ∧ (Instr.shld 0xFFFF).form.flagWrites.z = false ∧
    (Instr.shld 0xFFFF).form.flagWrites.ac = false ∧ (Instr.shld 0xFFFF).form.flagWrites.p = false ∧
    (Instr.shld 0xFFFF).form.flagWrites.cy = false ∧ (0x0001 : Word) ∉ (Instr.shld 0xFFFF).form.stores State.reset ∧
    (0x0000 : Word) ∈ (Instr.shld 0xFFFF).form.stores State.reset :=
  ⟨⟨_, rfl⟩, by decide, rfl, rfl, rfl, rfl, rfl, by decide, by decide⟩

/-- Hypotheses of every clause of `ControlFrame` and of `CostAndInterruptFlagAreNotRead`, at NOP. -/
theorem witness_ControlFrame :
    (∃ t : State, exec .nop State.reset = .next t) ∧ Instr.nop.form.spWrites = false ∧ Instr.nop.form.pcWrites = false ∧
    Instr.nop ≠ .ei ∧ Instr.nop ≠ .di ∧ Instr.nop ≠ .hlt ∧ (∀ n, Instr.nop ≠ .inp n) ∧ (∀ n, Instr.nop ≠ .outp n) :=
  ⟨⟨_, rfl⟩, rfl, rfl, nofun, nofun, nofun, fun _ => nofun, fun _ => nofun⟩

/-- Hypotheses of `CanonicalMemoriesAreEqual`: two memories with cells at both ends of the address space, built in two orders. -/
theorem witness_CanonicalMemoriesAreEqual :
    Memory.wf (memPut (memPut [] 0xFFFF 0x02) 0 0x01) = true ∧ Memory.wf (memPut (memPut [] 0 0x01) 0xFFFF 0x02) = true ∧
    ∀ a : Word, memGet (memPut (memPut [] 0xFFFF 0x02) 0 0x01) a.toNat = memGet (memPut (memPut [] 0 0x01) 0xFFFF 0x02) a.toNat :=
  ⟨by decide, by decide, fun _ => rfl⟩

/-- Hypotheses of the clauses of `WordAccessIsLittleEndian` and `PushThenPop` about other bytes, at an address and a sp that wrap. -/
theorem witness_PushThenPop :
    (0x0002 : Word) ≠ 0xFFFF ∧ (0x0002 : Word).toNat ≠ ((0xFFFF : Word).toNat + 1) % 65536 ∧
    (0x0001 : Word) ≠ State.reset.sp - 1 ∧ (0x0001 : Word) ≠ State.reset.sp - 2 := by decide

/-- Hypotheses of `PairStepEffect` and `DoubleAddEffect`. -/
theorem witness_PairStepEffect :
    Reg.a ∉ Pair.bc.regs ∧ Reg.a ∉ Pair.sp.regs ∧ Pair.hl ≠ .sp ∧ Reg.a ≠ .h ∧ Reg.a ≠ .l := by decide

/-- Hypotheses of `DecimalAddition`, at the greatest digits. -/
theorem witness_DecimalAddition :
    isBcd ((State.reset.setReg .a 0x99).reg .a) = true ∧ isBcd ((State.reset.setReg .b 0x99).read8 (.reg .b)) = true := by decide

/-- Hypotheses of the frame clauses of `CallThenReturn` and `ExchangeTopEffect`. -/
theorem witness_ExchangeTopEffect :
    Reg.a ≠ .h ∧ Reg.a ≠ .l ∧ (0x0002 : Word) ≠ State.reset.sp ∧ (0x0002 : Word) ≠ State.reset.sp + 1 ∧
    (0x0002 : Word) ≠ State.reset.sp - 1 ∧ (0x0002 : Word) ≠ State.reset.sp - 2 := by decide

/-- Hypotheses of both clauses of `PortEffect`. -/
theorem witness_PortEffect :
    { State.reset with ioPresent := true }.ioPresent = true ∧ State.reset.ioPresent = false := by decide

/-- Hypotheses of the four clauses of `InterruptEntryEffect`, the vector at both sides of its bound, and of
`InterruptIsRestartThenReturn`. -/
theorem witness_InterruptEntryEffect :
    ({ State.reset with ie := true }.halted = false ∧ { State.reset with ie := true }.ie = true ∧ 7 ≤ 7 ∧ 7 < 8) ∧
    { State.reset with halted := true }.halted = true ∧
    (State.reset.halted = false ∧ State.reset.ie = false) := by decide

/-- Hypotheses of the clauses of `MemoryLoadEffect`: three bytes that end at 0xFFFF, with one inside, one below, and one of them
at the last address; a buffer in the middle, with an address above it; and three that run past the end. -/
theorem witness_MemoryLoadEffect :
    State.reset.halted = false ∧ (0xFFFD : Word).toNat + [1, 2, 3].length ≤ 65536 ∧ 2 < [1, 2, 3].length ∧
    (0xFFFC : Word).toNat < (0xFFFD : Word).toNat ∧
    (0x0010 : Word).toNat + [1, 2, 3].length ≤ (0x0013 : Word).toNat ∧
    65536 < (0xFFFE : Word).toNat + [1, 2, 3].length := by decide

end Sys2Proof.Tests
end

section
/-! PROOF. The opcode map cell by cell, the fetch (O8) and the costs (O11). -/

namespace Sys2Proof

open Machine

/-- The bytes an opcode byte asks for, given the operands the map fills in. -/
def opcodeBytes (u : UndocAlias) (d8 : Byte) (d16 : Word) (op : Byte) : List Byte :=
  op :: match opcodeLength u op with
    | 3 => wordBytes d16
    | 2 => [d8]
    | _ => []

theorem opcodeBytes_one {u : UndocAlias} {op : Byte} (h : opcodeLength u op = 1) (d8 : Byte) (d16 : Word) :
    opcodeBytes u d8 d16 op = [op] := by
  simp [opcodeBytes, h]

theorem opcodeBytes_two {u : UndocAlias} {op : Byte} (h : opcodeLength u op = 2) (d8 : Byte) (d16 : Word) :
    opcodeBytes u d8 d16 op = [op, d8] := by
  simp [opcodeBytes, h]

theorem opcodeBytes_three {u : UndocAlias} {op : Byte} (h : opcodeLength u op = 3) (d8 : Byte) (d16 : Word) :
    opcodeBytes u d8 d16 op = [op, loByte d16, hiByte d16] := by
  simp [opcodeBytes, h, wordBytes]

/-- Every cell of the map encodes to its own opcode byte and the operands it was filled in with (R55, R56). -/
theorem opcodeRow_encode (u : UndocAlias) (d8 : Byte) (d16 : Word) {hi : Nat} (h : hi < 16) :
    (opcodeRow u d8 d16 hi).map encode =
      (List.range 16).map (fun lo => opcodeBytes u d8 d16 (BitVec.ofNat 8 (16 * hi + lo))) := by
  cases u <;> interval_cases hi <;> rfl

/-- Every cell of the map is well formed: the four bytes that may carry an address do so under `chip` only (R161). -/
theorem opcodeRow_wellFormed (u : UndocAlias) (d8 : Byte) (d16 : Word) (hi : Nat) :
    (opcodeRow u d8 d16 hi).all (Instr.wellFormed u) = true := by
  unfold opcodeRow
  cases u <;> split <;> rfl

theorem encode_opcodeMap (u : UndocAlias) (d8 : Byte) (d16 : Word) (op : Byte) :
    encode (opcodeMap u d8 d16 op) = opcodeBytes u d8 d16 op := by
  have hhi : op.toNat / 16 < 16 := by have := op.isLt; omega
  have hlo : op.toNat % 16 < 16 := Nat.mod_lt _ (by decide)
  have hop : BitVec.ofNat 8 (16 * (op.toNat / 16) + op.toNat % 16) = op := by
    rw [Nat.div_add_mod, BitVec.ofNat_toNat, BitVec.setWidth_eq]
  rw [opcodeMap, ← List.getD_map (f := encode), opcodeRow_encode u d8 d16 hhi]
  simp [List.getD, hlo, hop]

theorem opcodeMap_wellFormed (u : UndocAlias) (d8 : Byte) (d16 : Word) (op : Byte) :
    (opcodeMap u d8 d16 op).wellFormed u = true := by
  have hrow := List.all_eq_true.1 (opcodeRow_wellFormed u d8 d16 (op.toNat / 16))
  rw [opcodeMap, List.getD_eq_getElem?_getD]
  cases h : (opcodeRow u d8 d16 (op.toNat / 16))[op.toNat % 16]? with
  | none => rfl
  | some i => exact hrow i (List.mem_of_getElem? h)

/-- Each row of the cost table has its sixteen entries, all among the nine costs, under every setting (R57). -/
theorem cyclesRow_entries (p : Params) {hi : Nat} (h : hi < 16) :
    (cyclesRow p hi).length = 16 ∧ ∀ c ∈ cyclesRow p hi, c ∈ stepCosts := by
  obtain ⟨u, k⟩ := p
  revert hi
  cases u <;> cases k <;> decide

theorem opcodeCycles_mem (p : Params) (op : Byte) : opcodeCycles p op ∈ stepCosts := by
  have hhi : op.toNat / 16 < 16 := by have := op.isLt; omega
  obtain ⟨hlen, hmem⟩ := cyclesRow_entries p hhi
  have hlo : op.toNat % 16 < (cyclesRow p (op.toNat / 16)).length := by rw [hlen]; exact Nat.mod_lt _ (by decide)
  rw [opcodeCycles, List.getD_eq_getElem _ _ hlo]
  exact hmem _ (List.getElem_mem hlo)

end Sys2Proof

namespace Sys2Proof.Machine

theorem fetchInstr_one {s : State} (h : opcodeLength s.cfg.undocAlias (s.memRead s.pc) = 1) :
    s.fetchInstr = (opcodeMap s.cfg.undocAlias 0 0 (s.memRead s.pc), { s with pc := s.pc + 1 }) := by
  simp only [State.fetchInstr, State.fetch8, h]

theorem fetchInstr_two {s : State} (h : opcodeLength s.cfg.undocAlias (s.memRead s.pc) = 2) :
    s.fetchInstr = (opcodeMap s.cfg.undocAlias (s.memRead (s.pc + 1)) 0 (s.memRead s.pc),
      { s with pc := s.pc + 1 + 1 }) := by
  simp only [State.fetchInstr, State.fetch8, h]
  rfl

theorem fetchInstr_three {s : State} (h : opcodeLength s.cfg.undocAlias (s.memRead s.pc) = 3) :
    s.fetchInstr = (opcodeMap s.cfg.undocAlias 0 (cat (s.memRead (s.pc + 1 + 1)) (s.memRead (s.pc + 1)))
      (s.memRead s.pc), { s with pc := s.pc + 1 + 1 + 1 }) := by
  simp only [State.fetchInstr, State.fetch8, State.fetch16, h]
  rfl

@[simp] theorem bytesAt_zero (s : State) (a : Word) : s.bytesAt a 0 = [] := rfl

/-- The bytes from `a` on are the byte at `a` and the bytes from `a + 1` on. -/
@[simp] theorem bytesAt_succ (s : State) (a : Word) (n : Nat) :
    s.bytesAt a (n + 1) = s.memRead a :: s.bytesAt (a + 1) n := by
  have hnext (k : Nat) : a + BitVec.ofNat 16 (k + 1) = a + 1 + BitVec.ofNat 16 k := by
    rw [BitVec.ofNat_add, BitVec.add_comm (BitVec.ofNat 16 k), BitVec.add_assoc]
    rfl
  simp only [State.bytesAt, List.range_succ_eq_map, List.map_cons, List.map_map, Function.comp_def, Nat.succ_eq_add_one,
    hnext]
  simp

/-- The fetch reads the instruction whose bytes stand at pc, and puts pc past them (R18, R58). -/
theorem fetchInstr_bytes (s : State) :
    encode s.fetchInstr.1 = s.bytesAt s.pc s.fetchInstr.1.length ∧
      s.fetchInstr.2 = { s with pc := s.pc + BitVec.ofNat 16 s.fetchInstr.1.length } := by
  rcases opcodeLength_cases s.cfg.undocAlias (s.memRead s.pc) with h | h | h
  · rw [fetchInstr_one h]
    simp [Instr.length, encode_opcodeMap, opcodeBytes_one h]
  · rw [fetchInstr_two h]
    simp [Instr.length, encode_opcodeMap, opcodeBytes_two h, BitVec.add_assoc]
  · rw [fetchInstr_three h]
    simp [Instr.length, encode_opcodeMap, opcodeBytes_three h, BitVec.add_assoc]

theorem fetchInstr_wellFormed (s : State) : s.fetchInstr.1.wellFormed s.cfg.undocAlias = true := by
  rcases opcodeLength_cases s.cfg.undocAlias (s.memRead s.pc) with h | h | h
  · rw [fetchInstr_one h]
    exact opcodeMap_wellFormed _ _ _ _
  · rw [fetchInstr_two h]
    exact opcodeMap_wellFormed _ _ _ _
  · rw [fetchInstr_three h]
    exact opcodeMap_wellFormed _ _ _ _

/-- Settles O8, by the length of the opcode byte at pc. -/
theorem everyFetchIsAnInstruction : Obligations.EveryFetchIsAnInstruction := by
  unfold Obligations.EveryFetchIsAnInstruction
  intro s
  obtain ⟨hbytes, hpc⟩ := fetchInstr_bytes s
  exact ⟨fetchInstr_wellFormed s, hbytes.symm, hpc⟩

/-- Settles O11: the step writes the cost of the instruction it fetched, an entry of the table. -/
theorem lastCyclesIsACostOfTheTable : Obligations.LastCyclesIsACostOfTheTable := by
  unfold Obligations.LastCyclesIsACostOfTheTable
  intro s t h
  obtain ⟨-, rfl⟩ := step_next h
  exact opcodeCycles_mem _ _

end Sys2Proof.Machine

end

section
/-! PROOF. The canonical form determines the memory (O23), and the layout of the flag byte (O25). -/

namespace Sys2Proof.Machine

/-- Below its first address a canonical memory reads as 0x00. -/
theorem memGet_below {lo a : Nat} {m : List Host.Cell} (hm : memCanonicalFrom lo m = true) (ha : a < lo) :
    memGet m a = 0x00 := by
  induction m generalizing lo with
  | nil => rfl
  | cons c m ih =>
    obtain ⟨k, v⟩ := c
    obtain ⟨hlo, -, -, htail⟩ := memCanonicalFrom_cons.1 hm
    rw [memGet, if_neg (by omega)]
    exact ih htail (by omega)

@[simp] theorem memGet_cons_self (k : Nat) (v : Byte) (m : List Host.Cell) : memGet ((k, v) :: m) k = v := if_pos rfl

theorem memGet_cons_ne {k a : Nat} (h : k ≠ a) (v : Byte) (m : List Host.Cell) :
    memGet ((k, v) :: m) a = memGet m a := if_neg h

/-- Canonical lists that read the same: a first address below the other's first one would read as 0x00 there. -/
theorem canonical_head_le {lo lo' k k' : Nat} {v v' : Byte} {m m' : List Host.Cell}
    (hm : memCanonicalFrom lo ((k, v) :: m) = true) (hm' : memCanonicalFrom lo' ((k', v') :: m') = true)
    (h : ∀ a < 65536, memGet ((k, v) :: m) a = memGet ((k', v') :: m') a) : k' ≤ k := by
  by_contra hlt
  obtain ⟨-, hk, hv, -⟩ := memCanonicalFrom_cons.1 hm
  obtain ⟨-, hrest⟩ := memCanonicalFrom_cons.1 hm'
  have hread := h k hk
  rw [memGet_cons_self, memGet_below (memCanonicalFrom_cons.2 ⟨le_rfl, hrest⟩) (not_le.1 hlt)] at hread
  exact hv hread

/-- Canonical lists that read the same begin with the same cell, and so on down the list. -/
theorem memCanonicalFrom_ext {lo lo' : Nat} {m m' : List Host.Cell} (hm : memCanonicalFrom lo m = true)
    (hm' : memCanonicalFrom lo' m' = true) (h : ∀ a < 65536, memGet m a = memGet m' a) : m = m' := by
  induction m generalizing lo lo' m' with
  | nil =>
    cases m' with
    | nil => rfl
    | cons c' m' =>
      obtain ⟨k', v'⟩ := c'
      obtain ⟨-, hk', hv', -⟩ := memCanonicalFrom_cons.1 hm'
      exact absurd (memGet_cons_self k' v' m' ▸ h k' hk').symm hv'
  | cons c m ih =>
    obtain ⟨k, v⟩ := c
    obtain ⟨-, hk, hv, htail⟩ := memCanonicalFrom_cons.1 hm
    cases m' with
    | nil => exact absurd (memGet_cons_self k v m ▸ h k hk) hv
    | cons c' m' =>
      obtain ⟨k', v'⟩ := c'
      obtain rfl : k = k' :=
        le_antisymm (canonical_head_le hm' hm fun a ha => (h a ha).symm) (canonical_head_le hm hm' h)
      obtain ⟨-, -, -, htail'⟩ := memCanonicalFrom_cons.1 hm'
      have hvv : v = v' := by simpa using h k hk
      have hrest : ∀ a < 65536, memGet m a = memGet m' a := fun a ha => by
        by_cases hka : k = a
        · subst hka
          rw [memGet_below htail (Nat.lt_succ_self k), memGet_below htail' (Nat.lt_succ_self k)]
        · simpa only [memGet_cons_ne hka] using h a ha
      rw [hvv, ih htail htail' hrest]

/-- Settles O23, by induction on one of the lists. -/
theorem canonicalMemoriesAreEqual : Obligations.CanonicalMemoriesAreEqual := by
  unfold Obligations.CanonicalMemoriesAreEqual
  intro m m' hm hm' h
  refine memCanonicalFrom_ext hm hm' fun a ha => ?_
  simpa only [BitVec.toNat_ofNat, Nat.mod_eq_of_lt ha] using h (BitVec.ofNat 16 a)

theorem toNat_toByte (f : Flags) : f.toByte.toNat =
    128 * f.s.toNat + 64 * f.z.toNat + 16 * f.ac.toNat + 4 * f.p.toNat + 2 + f.cy.toNat := by
  obtain ⟨s, z, ac, p, cy⟩ := f
  cases s <;> cases z <;> cases ac <;> cases p <;> cases cy <;> rfl

/-- The padding of a byte written to the flags is forced, byte by byte (R21). -/
theorem toByte_ofByte (v : Byte) : (Flags.ofByte v).toByte = (v &&& 0xD5) ||| 0x02 := by
  revert v
  decide

/-- Settles O25. -/
theorem flagByteLayout : Obligations.FlagByteLayout := by
  unfold Obligations.FlagByteLayout
  exact ⟨toNat_toByte, ofByte_toByte, toByte_ofByte⟩

end Sys2Proof.Machine

end

section
/-! PROOF. What the shared operations write, over both outcomes of those that have two. -/

namespace Sys2Proof.Machine

/-- A conditional jump, taken or not, writes pc only (R114). -/
theorem jumpIf_writes (cond : Cond) (a16 : Word) (s : State) : ∃ w, s.jumpIf cond a16 = { s with pc := w } := by
  unfold State.jumpIf
  split <;> exact ⟨_, rfl⟩

/-- A conditional call, taken or not, writes memory, sp and pc only (R124). -/
theorem callIf_writes (cond : Cond) (a16 : Word) (s : State) :
    ∃ m v w, s.callIf cond a16 = { s with mem := m, sp := v, pc := w } := by
  unfold State.callIf
  split <;> exact ⟨_, _, _, rfl⟩

/-- A conditional return, taken or not, writes sp and pc only (R134). -/
theorem retIf_writes (cond : Cond) (s : State) : ∃ v w, s.retIf cond = { s with sp := v, pc := w } := by
  unfold State.retIf
  split <;> exact ⟨_, _, rfl⟩

/-- 0xD9, under either setting, writes sp and pc only (R161). -/
theorem undocReturn_writes (s : State) : ∃ v w, s.undocReturn = { s with sp := v, pc := w } := by
  unfold State.undocReturn
  cases s.cfg.undocAlias <;> exact ⟨_, _, rfl⟩

/-- A port read, with a handler or without, writes registers and the log only (R151). -/
theorem portRead_writes (s : State) (port : Byte) : ∃ g l, s.portRead port = { s with regs := g, ioLog := l } := by
  obtain ⟨-, _, h⟩ | ⟨-, h⟩ := portRead_cases s port <;> exact ⟨_, _, h⟩

/-- A port write, with a handler or without, writes the log only (R152). -/
theorem portWrite_writes (s : State) (port : Byte) : ∃ l, s.portWrite port = { s with ioLog := l } := by
  obtain ⟨-, h⟩ | ⟨-, h⟩ := portWrite_cases s port <;> exact ⟨_, h⟩

@[simp] theorem jumpIf_sp (cond : Cond) (a16 : Word) (s : State) : (s.jumpIf cond a16).sp = s.sp := by
  obtain ⟨_, h⟩ := jumpIf_writes cond a16 s
  rw [h]

@[simp] theorem portRead_sp (s : State) (port : Byte) : (s.portRead port).sp = s.sp := by
  obtain ⟨_, _, h⟩ := portRead_writes s port
  rw [h]

@[simp] theorem portRead_flags (s : State) (port : Byte) : (s.portRead port).flags = s.flags := by
  obtain ⟨_, _, h⟩ := portRead_writes s port
  rw [h]

@[simp] theorem portWrite_regs (s : State) (port : Byte) : (s.portWrite port).regs = s.regs := by
  obtain ⟨_, h⟩ := portWrite_writes s port
  rw [h]

@[simp] theorem portWrite_sp (s : State) (port : Byte) : (s.portWrite port).sp = s.sp := by
  obtain ⟨_, h⟩ := portWrite_writes s port
  rw [h]

@[simp] theorem portWrite_flags (s : State) (port : Byte) : (s.portWrite port).flags = s.flags := by
  obtain ⟨_, h⟩ := portWrite_writes s port
  rw [h]

theorem portRead_log (s : State) (port : Byte) :
    (s.portRead port).ioLog = s.ioLog ∨ ∃ e : IoEvent, (s.portRead port).ioLog = s.ioLog ++ [e] := by
  obtain ⟨-, v, h⟩ | ⟨-, h⟩ := portRead_cases s port
  · exact .inr ⟨.read port v, congrArg State.ioLog h⟩
  · exact .inl (congrArg State.ioLog h)

theorem portWrite_log (s : State) (port : Byte) :
    (s.portWrite port).ioLog = s.ioLog ∨ ∃ e : IoEvent, (s.portWrite port).ioLog = s.ioLog ++ [e] := by
  obtain ⟨-, h⟩ | ⟨-, h⟩ := portWrite_cases s port
  · exact .inr ⟨.write port (s.reg .a), congrArg State.ioLog h⟩
  · exact .inl (congrArg State.ioLog h)

theorem setPair_sp (s : State) {p : Pair} (hp : (p == .sp) = false) (v : Word) : (s.setPair p v).sp = s.sp := by
  cases p with
  | sp => cases hp
  | _ => rfl

theorem reg_setReg_other (s : State) {r r' : Reg} (h : r' ∉ [r]) (v : Byte) : (s.setReg r v).reg r' = s.reg r' :=
  regs_get_set_other _ (List.ne_of_not_mem_cons h) v

theorem reg_write8 (s : State) (o : Opnd) (v : Byte) {r : Reg} (hr : r ∉ o.regs) : (s.write8 o v).reg r = s.reg r := by
  cases o with
  | reg dst => exact reg_setReg_other s hr v
  | m => rfl

theorem reg_exchange (s : State) {r : Reg} (hr : r ∉ Pair.de.regs ++ Pair.hl.regs) : s.exchange.reg r = s.reg r := by
  rw [List.mem_append, not_or] at hr
  calc s.exchange.reg r = (s.setHL s.de).reg r := reg_setPair _ .de _ r hr.1
    _ = s.reg r := reg_setPair _ .hl _ r hr.2

/-- Every accumulator operation but a compare writes A, and none another register (R98, R102). -/
theorem reg_alu (s : State) (op : AluOp) (b : Byte) {r : Reg} (hr : r ∉ if op = .cmp then [] else [Reg.a]) :
    (s.alu op b).reg r = s.reg r := by
  cases op with
  | cmp => rfl
  | _ => exact reg_setReg_other s hr _

theorem reg_portRead (s : State) (port : Byte) {r : Reg} (hr : r ∉ [Reg.a]) : (s.portRead port).reg r = s.reg r := by
  obtain ⟨-, v, h⟩ | ⟨-, h⟩ := portRead_cases s port
  · rw [h]
    exact reg_setReg_other s hr v
  · rw [h]

end Sys2Proof.Machine

end

section
/-! PROOF. The frames of every instruction: registers (O17), flags (O18), control (O20); and that no instruction but IN reads
`last_cycles` or IE (O21). -/

namespace Sys2Proof

open Machine

/-! ## What a form can write -/

/-- A form that may move pc writes memory, sp and pc only. -/
theorem effect_of_pcWrites {f : Form} (hf : f.pcWrites = true) (s : State) :
    ∃ m v w, f.effect s = { s with mem := m, sp := v, pc := w } := by
  cases f with
  | jmp | call | ret | rst | pchl => exact ⟨_, _, _, rfl⟩
  | jcc cond a16 =>
    obtain ⟨_, h⟩ := jumpIf_writes cond a16 s
    exact ⟨_, _, _, h⟩
  | ccc cond a16 => exact callIf_writes cond a16 s
  | rcc cond =>
    obtain ⟨_, _, h⟩ := retIf_writes cond s
    exact ⟨_, _, _, h⟩
  | undocRet =>
    obtain ⟨_, _, h⟩ := undocReturn_writes s
    exact ⟨_, _, _, h⟩
  | undocJmp a16 | undocCall k a16 => cases a16 <;> exact ⟨_, _, _, rfl⟩
  | _ => cases hf

theorem regs_of_pcWrites {f : Form} (hf : f.pcWrites = true) (s : State) : (f.effect s).regs = s.regs := by
  obtain ⟨_, _, _, h⟩ := effect_of_pcWrites hf s
  rw [h]

theorem flags_of_pcWrites {f : Form} (hf : f.pcWrites = true) (s : State) : (f.effect s).flags = s.flags := by
  obtain ⟨_, _, _, h⟩ := effect_of_pcWrites hf s
  rw [h]

/-- Everything the effect of a form can write, in one of five ways: registers, memory, sp and flags; memory, sp and pc, for a form
that may move pc; registers and the log, for IN and OUT; IE, for EI and DI; `halted`, for HLT. -/
theorem effect_cases (f : Form) (s : State) :
    (∃ g m v fl, f.effect s = { s with regs := g, mem := m, sp := v, flags := fl }) ∨
    (f.pcWrites = true ∧ ∃ m v w, f.effect s = { s with mem := m, sp := v, pc := w }) ∨
    (((∃ port, f = .inp port) ∨ ∃ port, f = .outp port) ∧ ∃ g l, f.effect s = { s with regs := g, ioLog := l }) ∨
    ((f = .ei ∨ f = .di) ∧ ∃ b, f.effect s = { s with ie := b }) ∨
    (f = .hlt ∧ ∃ b, f.effect s = { s with halted := b }) := by
  cases f with
  | inr o | dcr o => cases o <;> exact .inl ⟨_, _, _, _, rfl⟩
  | lxi p | inx p | dcx p => cases p <;> exact .inl ⟨_, _, _, _, rfl⟩
  | pop p => cases p <;> exact .inl ⟨_, _, _, _, rfl⟩
  | alu op src | aluImm op d8 => cases op <;> exact .inl ⟨_, _, _, _, rfl⟩
  | jmp | jcc | call | ccc | ret | rcc | rst | pchl | undocRet => exact .inr (.inl ⟨rfl, effect_of_pcWrites rfl s⟩)
  | undocJmp a16 | undocCall k a16 =>
    cases a16 with
    | none => exact .inl ⟨_, _, _, _, rfl⟩
    | some a => exact .inr (.inl ⟨rfl, _, _, _, rfl⟩)
  | inp port => exact .inr (.inr (.inl ⟨.inl ⟨port, rfl⟩, portRead_writes s port⟩))
  | outp port =>
    obtain ⟨_, h⟩ := portWrite_writes s port
    exact .inr (.inr (.inl ⟨.inr ⟨port, rfl⟩, _, _, h⟩))
  | ei => exact .inr (.inr (.inr (.inl ⟨.inl rfl, _, rfl⟩)))
  | di => exact .inr (.inr (.inr (.inl ⟨.inr rfl, _, rfl⟩)))
  | hlt => exact .inr (.inr (.inr (.inr ⟨rfl, _, rfl⟩)))
  | _ => exact .inl ⟨_, _, _, _, rfl⟩

/-! ## Registers -/

/-- Each form keeps the registers R16 does not list for it. -/
theorem effect_reg (f : Form) (s : State) {r : Reg} (hr : r ∉ f.regWrites) : (f.effect s).reg r = s.reg r := by
  cases f with
  | movRR | movRM | mviR | lda | ldax | daa | rlc | rrc | ral | rar | cma => exact reg_setReg_other s hr _
  | inr o | dcr o => exact reg_write8 s o _ hr
  | lxi p | inx p | dcx p => exact reg_setPair s p _ r hr
  | alu op | aluImm op => exact reg_alu s op _ hr
  | lhld | dad | xthl => exact reg_setPair _ .hl _ r hr
  | xchg => exact reg_exchange s hr
  | pop p => exact reg_setStackPair _ p _ r hr
  | inp port => exact reg_portRead s port hr
  | outp port => exact reg_congr (portWrite_regs s port) r
  | jcc | ccc | rcc | undocRet => exact reg_congr (regs_of_pcWrites rfl s) r
  | undocJmp a16 | undocCall k a16 => cases a16 <;> rfl
  | _ => rfl

/-! ## Flags -/

/-- `g` holds what `f` held in every flag that `w` does not mark: what `FlagFrame` asks of `Form.flagWrites`. -/
def Machine.Flags.KeepsOutside (w f g : Flags) : Prop :=
  (w.s = false → g.s = f.s) ∧ (w.z = false → g.z = f.z) ∧ (w.ac = false → g.ac = f.ac) ∧
  (w.p = false → g.p = f.p) ∧ (w.cy = false → g.cy = f.cy)

theorem keepsOutside_of_eq {f g : Flags} (h : g = f) (w : Flags) : w.KeepsOutside f g := by
  subst h
  exact ⟨fun _ => rfl, fun _ => rfl, fun _ => rfl, fun _ => rfl, fun _ => rfl⟩

/-- Where every flag is marked there is nothing to keep. -/
theorem keepsOutside_all (f g : Flags) : Flags.KeepsOutside ⟨true, true, true, true, true⟩ f g :=
  ⟨nofun, nofun, nofun, nofun, nofun⟩

theorem keepsOutside_cy {f g : Flags} (h : g.cy = f.cy) : Flags.KeepsOutside ⟨true, true, true, true, false⟩ f g :=
  ⟨nofun, nofun, nofun, nofun, fun _ => h⟩

theorem keepsOutside_withCy (f : Flags) (b : Bool) :
    Flags.KeepsOutside ⟨false, false, false, false, true⟩ f { f with cy := b } :=
  ⟨fun _ => rfl, fun _ => rfl, fun _ => rfl, fun _ => rfl, nofun⟩

/-- Each form keeps the flags its row of R22 does not mark. -/
theorem effect_flags (f : Form) (s : State) : f.flagWrites.KeepsOutside s.flags (f.effect s).flags := by
  cases f with
  | alu | aluImm | daa => exact keepsOutside_all _ _
  | inr | dcr => exact keepsOutside_cy rfl
  | dad | rlc | rrc | ral | rar | cmc | stc => exact keepsOutside_withCy _ _
  | pop p =>
    cases p with
    | psw => exact keepsOutside_all _ _
    | _ => exact keepsOutside_of_eq rfl _
  | lxi p | inx p | dcx p => cases p <;> exact keepsOutside_of_eq rfl _
  | jcc | ccc | rcc | undocRet => exact keepsOutside_of_eq (flags_of_pcWrites rfl s) _
  | undocJmp a16 | undocCall k a16 => cases a16 <;> exact keepsOutside_of_eq rfl _
  | inp port => exact keepsOutside_of_eq (portRead_flags s port) _
  | outp port => exact keepsOutside_of_eq (portWrite_flags s port) _
  | _ => exact keepsOutside_of_eq rfl _

/-! ## Control -/

/-- An instruction is not another row, said of its form. -/
theorem form_ne {i : Instr} {f : Form} (h : i ≠ f.instr) : i.form ≠ f := fun hf => h (hf ▸ (instr_form i).symm)

theorem effect_pc {f : Form} (hf : f.pcWrites = false) (s : State) : (f.effect s).pc = s.pc := by
  obtain ⟨_, _, _, _, h⟩ | ⟨hpc, -⟩ | ⟨-, _, _, h⟩ | ⟨-, _, h⟩ | ⟨-, _, h⟩ := effect_cases f s
  case inr.inl => cases hpc.symm.trans hf
  all_goals rw [h]

theorem effect_ie {f : Form} (hei : f ≠ .ei) (hdi : f ≠ .di) (s : State) : (f.effect s).ie = s.ie := by
  obtain ⟨_, _, _, _, h⟩ | ⟨-, _, _, _, h⟩ | ⟨-, _, _, h⟩ | ⟨hf, -⟩ | ⟨-, _, h⟩ := effect_cases f s
  case inr.inr.inr.inl => exact (hf.elim hei hdi).elim
  all_goals rw [h]

theorem effect_halted {f : Form} (hhlt : f ≠ .hlt) (s : State) : (f.effect s).halted = s.halted := by
  obtain ⟨_, _, _, _, h⟩ | ⟨-, _, _, _, h⟩ | ⟨-, _, _, h⟩ | ⟨-, _, h⟩ | ⟨hf, -⟩ := effect_cases f s
  case inr.inr.inr.inr => exact absurd hf hhlt
  all_goals rw [h]

theorem effect_ioLog {f : Form} (hin : ∀ port, f ≠ .inp port) (hout : ∀ port, f ≠ .outp port) (s : State) :
    (f.effect s).ioLog = s.ioLog := by
  obtain ⟨_, _, _, _, h⟩ | ⟨-, _, _, _, h⟩ | ⟨hf, -⟩ | ⟨-, _, h⟩ | ⟨-, _, h⟩ := effect_cases f s
  case inr.inr.inl => exact (hf.elim (not_exists.2 hin) (not_exists.2 hout)).elim
  all_goals rw [h]

/-- The log grows by at most one transaction, at its end (R153, R154). -/
theorem effect_ioLog_grows (f : Form) (s : State) :
    (f.effect s).ioLog = s.ioLog ∨ ∃ e : IoEvent, (f.effect s).ioLog = s.ioLog ++ [e] := by
  by_cases hin : ∃ port, f = .inp port
  · obtain ⟨port, rfl⟩ := hin
    exact portRead_log s port
  · by_cases hout : ∃ port, f = .outp port
    · obtain ⟨port, rfl⟩ := hout
      exact portWrite_log s port
    · exact .inl (effect_ioLog (not_exists.1 hin) (not_exists.1 hout) s)

/-- A form outside the list of R23 leaves sp. -/
theorem effect_sp {f : Form} (hf : f.spWrites = false) (s : State) : (f.effect s).sp = s.sp := by
  cases f with
  | lxi p | inx p | dcx p => exact setPair_sp s hf _
  | inr o | dcr o => cases o <;> rfl
  | alu op | aluImm op => cases op <;> rfl
  | jcc cond a16 => exact jumpIf_sp cond a16 s
  | inp port => exact portRead_sp s port
  | outp port => exact portWrite_sp s port
  | undocJmp a16 => cases a16 <;> rfl
  | undocCall k a16 =>
    cases a16 with
    | none => rfl
    | some a => cases hf
  | sphl | push | pop | call | ccc | ret | rcc | rst | undocRet => cases hf
  | _ => rfl

/-! ## `last_cycles` and IE -/

/-- The effect of a form other than IN, EI and DI commutes with a change of `last_cycles` and IE. -/
theorem effect_costAndIe {f : Form} (hin : ∀ port, f ≠ .inp port) (hei : f ≠ .ei) (hdi : f ≠ .di) (s : State) (n : Nat)
    (b : Bool) :
    f.effect { s with lastCycles := n, ie := b } = { f.effect s with lastCycles := n, ie := b } := by
  cases f with
  | inp port => exact absurd rfl (hin port)
  | ei => exact absurd rfl hei
  | di => exact absurd rfl hdi
  | inr o | dcr o => cases o <;> rfl
  | ldax p | stax p => cases p <;> rfl
  | lxi p | inx p | dcx p | dad p | push p | pop p => cases p <;> rfl
  | alu op src => cases op <;> cases src <;> rfl
  | aluImm op => cases op <;> rfl
  | jcc | ccc | rcc | outp =>
    dsimp only [Form.effect, State.jumpIf, State.callIf, State.retIf, State.output, State.portWrite]
    split <;> rfl
  | undocRet =>
    dsimp only [Form.effect, State.undocReturn]
    cases s.cfg.undocAlias <;> rfl
  | undocJmp a16 | undocCall k a16 => cases a16 <;> rfl
  | _ => rfl

/-- The same with EI and DI, which give IE a value of their own. -/
theorem effect_costAndIe_ie (f : Form) (hin : ∀ port, f ≠ .inp port) (s : State) (n : Nat) (b : Bool) :
    ∃ b', f.effect { s with lastCycles := n, ie := b } = { f.effect s with lastCycles := n, ie := b' } ∧
      (f ≠ .ei → f ≠ .di → b' = b) := by
  by_cases hei : f = .ei
  · exact ⟨true, by rw [hei]; rfl, fun h => absurd hei h⟩
  · by_cases hdi : f = .di
    · exact ⟨false, by rw [hdi]; rfl, fun _ h => absurd hdi h⟩
    · exact ⟨b, effect_costAndIe hin hei hdi s n b, fun _ _ => rfl⟩

/-! ## The statements -/

/-- Settles O17, by a case split over the forms. -/
theorem registerFrame : Obligations.RegisterFrame := by
  unfold Obligations.RegisterFrame
  intro i s t h r hr
  rw [exec_next h]
  exact effect_reg i.form s hr

/-- Settles O18, by a case split over the forms. -/
theorem flagFrame : Obligations.FlagFrame := by
  unfold Obligations.FlagFrame
  intro i s t h
  rw [exec_next h]
  exact effect_flags i.form s

/-- Settles O20, from what each kind of form can write. -/
theorem controlFrame : Obligations.ControlFrame := by
  unfold Obligations.ControlFrame
  intro i s t h
  rw [exec_next h]
  exact ⟨fun hsp => effect_sp hsp s,
    fun hei hdi => effect_ie (form_ne hei) (form_ne hdi) s,
    fun hhlt => effect_halted (form_ne hhlt) s,
    fun hin hout => effect_ioLog (fun n => form_ne (hin n)) (fun n => form_ne (hout n)) s,
    effect_ioLog_grows i.form s,
    fun hpc => effect_pc hpc s⟩

/-- Settles O21: every effect but IN's commutes with the change. -/
theorem costAndInterruptFlagAreNotRead : Obligations.CostAndInterruptFlagAreNotRead := by
  unfold Obligations.CostAndInterruptFlagAreNotRead
  intro i s t n b hin h
  obtain ⟨b', hu, hb⟩ := effect_costAndIe_ie i.form (fun port => form_ne (hin port)) s n b
  refine ⟨_, exec_eq _ _, ?_, fun hei hdi => ?_⟩
  · rw [exec_next h, hu]
  · rw [hu]
    exact hb (form_ne hei) (form_ne hdi)

end Sys2Proof

end

section
/-! PROOF. Memory: the frame of every instruction (O19), 16-bit accesses (O22) and the memory load (O60). -/

namespace Sys2Proof.Machine

/-! ## What the shared operations leave in memory -/

theorem memRead_memWrite16_other (s : State) {a b : Word} (h : b ∉ [a, a + 1]) (v : Word) :
    (s.memWrite16 a v).memRead b = s.memRead b := by
  obtain ⟨hlo, hhi⟩ : b ≠ a ∧ b ≠ a + 1 := by simpa using h
  rw [memRead_memWrite16, if_neg hhi, if_neg hlo]

theorem memRead_push16_other (s : State) {a : Word} (h : a ∉ s.pushSlots) (v : Word) :
    (s.push16 v).memRead a = s.memRead a := by
  obtain ⟨hhi, hlo⟩ : a ≠ s.sp - 1 ∧ a ≠ s.sp - 2 := by simpa [State.pushSlots] using h
  rw [memRead_push16, if_neg hlo, if_neg hhi]

theorem memRead_write8_other (s : State) (o : Opnd) {a : Word} (h : a ∉ o.stores s) (v : Byte) :
    (s.write8 o v).memRead a = s.memRead a := by
  cases o with
  | reg r => rfl
  | m => exact memRead_memWrite_other s (List.ne_of_not_mem_cons h) v

/-- A conditional call stores where a push does if it is taken, and nowhere if it is not (R124). -/
theorem memRead_callIf_other (s : State) (cond : Cond) (a16 : Word) {a : Word}
    (h : a ∉ if condHolds cond s.flags then s.pushSlots else []) : (s.callIf cond a16).memRead a = s.memRead a := by
  unfold State.callIf
  split at h
  · next hc =>
    rw [if_pos hc]
    exact memRead_push16_other s h s.pc
  · next hc => rw [if_neg hc]

@[simp] theorem setPair_mem (s : State) (p : Pair) (v : Word) : (s.setPair p v).mem = s.mem := by
  cases p <;> rfl

@[simp] theorem setStackPair_mem (s : State) (p : StackPair) (v : Word) : (s.setStackPair p v).mem = s.mem := by
  cases p <;> rfl

@[simp] theorem alu_mem (s : State) (op : AluOp) (b : Byte) : (s.alu op b).mem = s.mem := by
  cases op <;> rfl

@[simp] theorem jumpIf_mem (cond : Cond) (a16 : Word) (s : State) : (s.jumpIf cond a16).mem = s.mem := by
  obtain ⟨_, h⟩ := jumpIf_writes cond a16 s
  rw [h]

@[simp] theorem retIf_mem (cond : Cond) (s : State) : (s.retIf cond).mem = s.mem := by
  obtain ⟨_, _, h⟩ := retIf_writes cond s
  rw [h]

@[simp] theorem undocReturn_mem (s : State) : s.undocReturn.mem = s.mem := by
  obtain ⟨_, _, h⟩ := undocReturn_writes s
  rw [h]

@[simp] theorem portRead_mem (s : State) (port : Byte) : (s.portRead port).mem = s.mem := by
  obtain ⟨_, _, h⟩ := portRead_writes s port
  rw [h]

@[simp] theorem portWrite_mem (s : State) (port : Byte) : (s.portWrite port).mem = s.mem := by
  obtain ⟨_, h⟩ := portWrite_writes s port
  rw [h]

/-! ## Bytes and addresses as numbers -/

theorem loByte_eq_ofNat (v : Word) : loByte v = BitVec.ofNat 8 (v.toNat % 256) := by
  rw [← toNat_loByte, BitVec.ofNat_toNat, BitVec.setWidth_eq]

theorem hiByte_eq_ofNat (v : Word) : hiByte v = BitVec.ofNat 8 (v.toNat / 256) := by
  rw [← toNat_hiByte, BitVec.ofNat_toNat, BitVec.setWidth_eq]

theorem eq_add_one_iff_toNat (a b : Word) : b = a + 1 ↔ b.toNat = (a.toNat + 1) % 65536 := by
  rw [← BitVec.toNat_inj, BitVec.toNat_add]
  rfl

/-- Below the top of memory an offset is added without wrap. -/
theorem toNat_add_ofNat {a : Word} {k : Nat} (h : a.toNat + k < 65536) : (a + BitVec.ofNat 16 k).toNat = a.toNat + k := by
  rw [BitVec.toNat_add, BitVec.toNat_ofNat]
  omega

/-! ## 16-bit writes -/

/-- What a 16-bit write leaves in memory, in numbers (R34, R35). The address and the next are different, so it does not matter
which is asked for first. -/
theorem memRead_memWrite16_toNat (s : State) (a v b : Word) :
    (s.memWrite16 a v).memRead b =
      if b = a then BitVec.ofNat 8 (v.toNat % 256)
      else if b.toNat = (a.toNat + 1) % 65536 then BitVec.ofNat 8 (v.toNat / 256)
      else s.memRead b := by
  simp only [memRead_memWrite16, ← loByte_eq_ofNat, ← hiByte_eq_ofNat, ← eq_add_one_iff_toNat]
  by_cases hb : b = a
  · rw [if_pos hb, if_pos hb, if_neg (hb ▸ word_ne_add_one b)]
  · rw [if_neg hb, if_neg hb]

/-- Settles O22. -/
theorem wordAccessIsLittleEndian : Obligations.WordAccessIsLittleEndian := by
  unfold Obligations.WordAccessIsLittleEndian
  exact fun s a v => ⟨memRead16_memWrite16 s a v, memRead_memWrite16_toNat s a v⟩

/-! ## The memory load -/

theorem memRead_memWriteList_inside (s : State) {a : Word} {bytes : List Byte} (h : a.toNat + bytes.length ≤ 65536) {k : Nat}
    (hk : k < bytes.length) : (s.memWriteList a bytes).memRead (a + BitVec.ofNat 16 k) = bytes[k] := by
  have hto : (a + BitVec.ofNat 16 k).toNat = a.toNat + k := toNat_add_ofNat (by omega)
  rw [memRead_memWriteList s a bytes h, hto, if_pos (Nat.le_add_right _ _), Nat.add_sub_cancel_left,
    List.getElem?_eq_getElem hk, Option.getD_some]

theorem memRead_memWriteList_outside (s : State) {a : Word} {bytes : List Byte} (h : a.toNat + bytes.length ≤ 65536) {b : Word}
    (hb : b.toNat < a.toNat ∨ a.toNat + bytes.length ≤ b.toNat) : (s.memWriteList a bytes).memRead b = s.memRead b := by
  rw [memRead_memWriteList s a bytes h]
  split
  · rw [List.getElem?_eq_none (by omega), Option.getD_none]
  · rfl

/-- A load on a core that is not halted: it answers exactly where the buffer ends by 0xFFFF (R46). -/
theorem load_eq {s : State} (hs : s.halted = false) (offset : Word) (bytes : List Byte) :
    load offset bytes s =
      if 65536 < offset.toNat + bytes.length then .refused .loadPastEnd else .next (s.memWriteList offset bytes) := by
  simp [load, hs]

/-- Settles O60, by where an address lies: in the buffer or outside it. -/
theorem memoryLoadEffect : Obligations.MemoryLoadEffect := by
  unfold Obligations.MemoryLoadEffect
  intro offset bytes s hs
  rw [load_eq hs]
  refine ⟨fun hfits => ?_, fun hpast => if_pos hpast⟩
  exact ⟨s.memWriteList offset bytes, if_neg (not_lt.2 hfits), fun k hk => memRead_memWriteList_inside s hfits hk,
    fun a ha => memRead_memWriteList_outside s hfits ha, memWriteList_eq s offset bytes⟩

end Sys2Proof.Machine

namespace Sys2Proof

open Machine

/-! ## The memory frame of every instruction -/

/-- Each form keeps every byte outside the addresses R38 lists for it: the stores by where they store, the rest because their
operation leaves memory as it is. -/
theorem effect_memRead (f : Form) (s : State) {a : Word} (ha : a ∉ f.stores s) : (f.effect s).memRead a = s.memRead a := by
  cases f with
  | movMR | mviM | sta | stax => exact memRead_memWrite_other s (List.ne_of_not_mem_cons ha) _
  | inr o | dcr o => exact memRead_write8_other s o ha _
  | shld | xthl => exact memRead_memWrite16_other s ha _
  | push | call | rst => exact memRead_push16_other s ha _
  | ccc cond a16 => exact memRead_callIf_other s cond a16 ha
  | undocCall k a16 =>
    cases a16 with
    | none => rfl
    | some a16 => exact memRead_push16_other s ha _
  | lxi p | inx p | dcx p => exact memRead_congr (setPair_mem s p _) a
  | pop p => exact memRead_congr (setStackPair_mem s.drop16 p _) a
  | alu op | aluImm op => exact memRead_congr (alu_mem s op _) a
  | jcc cond a16 => exact memRead_congr (jumpIf_mem cond a16 s) a
  | rcc cond => exact memRead_congr (retIf_mem cond s) a
  | undocRet => exact memRead_congr (undocReturn_mem s) a
  | inp port => exact memRead_congr (portRead_mem s port) a
  | outp port => exact memRead_congr (portWrite_mem s port) a
  | undocJmp a16 => cases a16 <;> rfl
  | _ => rfl

/-- Settles O19, by a case split over the forms. -/
theorem memoryFrame : Obligations.MemoryFrame := by
  unfold Obligations.MemoryFrame
  intro i s t h a ha
  rw [exec_next h]
  exact effect_memRead i.form s ha

end Sys2Proof

end

section
/-! PROOF. The decoder and the encoder give each other back (O2, O3), decoding is total (O4), the opcode and the cost of every row
(O1, O5, O6), and the step runs the instruction at pc (O7). -/

namespace Sys2Proof

open Machine

/-! ## The operands of an instruction -/

/-- The operand byte of a form, 0 where it takes none. -/
def Form.byteOperand (f : Form) : Byte :=
  match f with
  | .mviR _ d8 | .mviM d8 | .aluImm _ d8 | .inp d8 | .outp d8 => d8
  | _ => 0

/-- The operand word of a form, 0 where it takes none. -/
def Form.wordOperand (f : Form) : Word :=
  match f with
  | .lxi _ v | .lda v | .sta v | .lhld v | .shld v | .jmp v | .jcc _ v | .call v | .ccc _ v => v
  | .undocJmp a16 | .undocCall _ a16 => a16.getD 0
  | _ => 0

/-- A form has no operand, an operand byte or an operand word, and its operand bytes are those of what it has (R54). -/
theorem operandBytes_cases (f : Form) :
    (f.operandBytes = [] ∧ f.byteOperand = 0 ∧ f.wordOperand = 0) ∨
    (f.operandBytes = [f.byteOperand] ∧ f.wordOperand = 0) ∨
    (f.operandBytes = wordBytes f.wordOperand ∧ f.byteOperand = 0) := by
  cases f with
  | mviR | mviM | aluImm | inp | outp => exact .inr (.inl ⟨rfl, rfl⟩)
  | lxi | lda | sta | lhld | shld | jmp | jcc | call | ccc => exact .inr (.inr ⟨rfl, rfl⟩)
  | undocJmp a16 | undocCall k a16 =>
    cases a16 with
    | none => exact .inl ⟨rfl, rfl, rfl⟩
    | some v => exact .inr (.inr ⟨rfl, rfl⟩)
  | _ => exact .inl ⟨rfl, rfl, rfl⟩

/-- The address that R161 makes the map fill in is the one the setting admits. -/
theorem pick_of_admits {u : UndocAlias} {a16 : Option Word} (h : u.admits a16 = true) :
    u.pick none (some (a16.getD 0)) = a16 := by
  cases u with
  | nop => exact (Option.isNone_iff_eq_none.1 h).symm
  | chip =>
    obtain ⟨v, rfl⟩ := Option.isSome_iff_exists.1 h
    rfl

/-- A well-formed instruction is the cell of the map at its opcode byte, filled in with its operands (R55). -/
theorem opcodeMap_operands {u : UndocAlias} {i : Instr} (h : i.wellFormed u = true) :
    opcodeMap u i.form.byteOperand i.form.wordOperand i.opcode = i := by
  cases i <;> dsimp only [Instr.opcode]
  case undocCB a16 => exact congrArg Instr.undocCB (pick_of_admits h)
  case undocDD a16 => exact congrArg Instr.undocDD (pick_of_admits h)
  case undocED a16 => exact congrArg Instr.undocED (pick_of_admits h)
  case undocFD a16 => exact congrArg Instr.undocFD (pick_of_admits h)
  all_goals rfl

/-! ## The length and the opcode of an instruction -/

theorem length_opcodeMap (u : UndocAlias) (d8 : Byte) (d16 : Word) (op : Byte) :
    (opcodeMap u d8 d16 op).length = opcodeLength u op := by
  rw [Instr.length, encode_opcodeMap]
  rcases opcodeLength_cases u op with h | h | h
  · rw [opcodeBytes_one h, h]; rfl
  · rw [opcodeBytes_two h, h]; rfl
  · rw [opcodeBytes_three h, h]; rfl

theorem opcode_opcodeMap (u : UndocAlias) (d8 : Byte) (d16 : Word) (op : Byte) : (opcodeMap u d8 d16 op).opcode = op :=
  (List.cons.inj (encode_opcodeMap u d8 d16 op)).1

/-- A well-formed instruction is as long as its opcode byte says (R56). -/
theorem length_of_wellFormed {u : UndocAlias} {i : Instr} (h : i.wellFormed u = true) :
    i.length = opcodeLength u i.opcode := by
  rw [← length_opcodeMap u i.form.byteOperand i.form.wordOperand, opcodeMap_operands h]

/-! ## Decode and encode -/

/-- The decoder reads a well-formed instruction back from its bytes, by the kind of operand it has. -/
theorem decode_encode {u : UndocAlias} {i : Instr} (h : i.wellFormed u = true) (rest : List Byte) :
    decode u (encode i ++ rest) = .instr i rest := by
  have hmap := opcodeMap_operands h
  have hlen : opcodeLength u i.opcode = i.form.operandBytes.length + 1 := (length_of_wellFormed h).symm
  rw [encode, Instr.operandBytes]
  obtain ⟨hbytes, hd8, hd16⟩ | ⟨hbytes, hd16⟩ | ⟨hbytes, hd8⟩ := operandBytes_cases i.form
  · rw [hbytes] at hlen ⊢
    rw [hd8, hd16] at hmap
    exact (decode_one hlen rest).trans (by rw [hmap])
  · rw [hbytes] at hlen ⊢
    rw [hd16] at hmap
    exact (decode_two hlen _ rest).trans (by rw [hmap])
  · rw [hbytes] at hlen ⊢
    rw [hd8] at hmap
    exact (decode_three hlen _ _ rest).trans (by rw [cat_hiByte_loByte, hmap])

theorem encode_injOn {u : UndocAlias} {i j : Instr} (hi : i.wellFormed u = true) (hj : j.wellFormed u = true)
    (h : encode i = encode j) : i = j := by
  have hdec := decode_encode hi []
  rw [h, decode_encode hj] at hdec
  exact (Decoded.instr.inj hdec).1.symm

/-- What the decoder answers is a cell of the map, and what it read is that cell's bytes. -/
theorem decode_instr {u : UndocAlias} {bytes rest : List Byte} {i : Instr} (h : decode u bytes = .instr i rest) :
    ∃ d8 d16 op, i = opcodeMap u d8 d16 op ∧ bytes = opcodeBytes u d8 d16 op ++ rest := by
  cases bytes with
  | nil => cases h
  | cons op bytes =>
    rcases opcodeLength_cases u op with hlen | hlen | hlen
    · rw [decode_one hlen] at h
      cases h
      exact ⟨0, 0, op, rfl, by rw [opcodeBytes_one hlen]; rfl⟩
    · match bytes with
      | [] => simp [decode, hlen] at h
      | d8 :: bytes =>
        rw [decode_two hlen] at h
        cases h
        exact ⟨d8, 0, op, rfl, by rw [opcodeBytes_two hlen]; rfl⟩
    · match bytes with
      | [] | [_] => simp [decode, hlen] at h
      | lo :: hi :: bytes =>
        rw [decode_three hlen] at h
        cases h
        exact ⟨0, cat hi lo, op, rfl, by rw [opcodeBytes_three hlen, loByte_cat, hiByte_cat]; rfl⟩

/-- Three bytes are enough for every opcode byte: the decoder answers its cell of the map (R59). -/
theorem decode_total (u : UndocAlias) (op b1 b2 : Byte) (rest : List Byte) :
    ∃ d8 d16, decode u (op :: b1 :: b2 :: rest) =
      .instr (opcodeMap u d8 d16 op) ((op :: b1 :: b2 :: rest).drop (opcodeLength u op)) := by
  rcases opcodeLength_cases u op with h | h | h
  · exact ⟨0, 0, by rw [decode_one h, h]; rfl⟩
  · exact ⟨b1, 0, by rw [decode_two h, h]; rfl⟩
  · exact ⟨0, cat b2 b1, by rw [decode_three h, h]; rfl⟩

theorem stepCosts_pos : ∀ c ∈ stepCosts, 0 < c := by decide

/-- Settles O2, by the kind of operand the instruction has. -/
theorem decodeGivesBackEncoded : Obligations.DecodeGivesBackEncoded := by
  unfold Obligations.DecodeGivesBackEncoded
  exact fun _ _ rest h => decode_encode h rest

/-- Settles O3: every cell of the map is well formed and encodes to the bytes it was read from. -/
theorem encodeGivesBackDecoded : Obligations.EncodeGivesBackDecoded := by
  unfold Obligations.EncodeGivesBackDecoded
  intro u bytes rest i h
  obtain ⟨d8, d16, op, rfl, rfl⟩ := decode_instr h
  exact ⟨opcodeMap_wellFormed u d8 d16 op, by rw [encode_opcodeMap]⟩

/-- Settles O4, from the cell of the map at the opcode byte. -/
theorem everyOpcodeDecodes : Obligations.EveryOpcodeDecodes := by
  unfold Obligations.EveryOpcodeDecodes
  intro p op b1 b2 rest
  obtain ⟨d8, d16, hdec⟩ := decode_total p.undocAlias op b1 b2 rest
  refine ⟨opcodeMap p.undocAlias d8 d16 op, ?_, opcode_opcodeMap _ d8 d16 op, ?_⟩
  · rw [hdec, length_opcodeMap]
  · rw [length_opcodeMap]
    have hlen := opcodeLength_cases p.undocAlias op
    exact ⟨by omega, by omega, stepCosts_pos _ (opcodeCycles_mem p _)⟩

/-! ## The rows of the table -/

/-- Settles O1: each list is decoded by evaluation. -/
theorem sampleWordsDecode : Obligations.SampleWordsDecode := by
  unfold Obligations.SampleWordsDecode
  decide

/-- Settles O5: for each rule, by the values of its operands' codes. -/
theorem opcodesHaveTheirFieldCodes : Obligations.OpcodesHaveTheirFieldCodes := by
  unfold Obligations.OpcodesHaveTheirFieldCodes
  exact ⟨
    -- MOV, MVI, INR, DCR
    fun dst src => by cases dst <;> cases src <;> rfl,
    fun dst => by cases dst <;> rfl,
    fun src => by cases src <;> rfl,
    fun dst _ => by cases dst <;> rfl,
    fun _ => rfl,
    fun dst => by rcases dst with ⟨⟨⟩⟩ | _ <;> rfl,
    fun dst => by rcases dst with ⟨⟨⟩⟩ | _ <;> rfl,
    -- LXI, INX, DAD, DCX, STAX, LDAX
    fun p _ => by cases p <;> rfl,
    fun p => by cases p <;> rfl,
    fun p => by cases p <;> rfl,
    fun p => by cases p <;> rfl,
    fun p => by cases p <;> rfl,
    fun p => by cases p <;> rfl,
    -- the accumulator operations
    fun op src => by cases op <;> rcases src with ⟨⟨⟩⟩ | _ <;> rfl,
    fun op _ => by cases op <;> rfl,
    -- the conditional returns, jumps and calls, and RST
    fun cond => by cases cond <;> rfl,
    fun cond _ => by cases cond <;> rfl,
    fun cond _ => by cases cond <;> rfl,
    by decide,
    -- POP, PUSH, and the aliases of NOP
    fun p => by cases p <;> rfl,
    fun p => by cases p <;> rfl,
    by decide,
    -- the rows outside the groups
    rfl, rfl, fun _ => ⟨rfl, rfl, rfl, rfl, rfl, rfl⟩, rfl, rfl, rfl, rfl, rfl, rfl, rfl, rfl, rfl, rfl, rfl, rfl,
    fun _ => ⟨rfl, rfl⟩, rfl, rfl, rfl, fun _ => ⟨rfl, rfl, rfl, rfl⟩, rfl⟩

/-- The cost of a form, from the table of R57. -/
def Form.cost (p : Params) (f : Form) : Nat :=
  match f with
  | .nop | .nopAlias _ | .xchg | .alu _ (.reg _) | .daa | .rlc | .rrc | .ral | .rar | .cma | .cmc | .stc | .ei | .di => 4
  | .movRR _ _ | .inr (.reg _) | .dcr (.reg _) | .inx _ | .dcx _ | .pchl | .sphl => 5
  | .movRM _ | .movMR _ | .mviR _ _ | .ldax _ | .stax _ | .alu _ .m | .aluImm _ _ | .hlt => 7
  | .mviM _ | .lxi _ _ | .inr .m | .dcr .m | .dad _ | .jmp _ | .jcc _ _ | .ret | .pop _ | .inp _ | .outp _ => 10
  | .rst _ | .push _ => 11
  | .lda _ | .sta _ => 13
  | .lhld _ | .shld _ => 16
  | .call _ => 17
  | .xthl => 18
  | .ccc _ _ => p.condCycles.pick 17 11
  | .rcc _ => p.condCycles.pick 11 5
  | .undocJmp _ | .undocRet => p.undocAlias.pick 4 10
  | .undocCall _ _ => p.undocAlias.pick 4 17

/-- The entry of the cost table at the opcode byte of a row is the cost of its form. -/
theorem cycles_eq_cost (p : Params) (i : Instr) : i.cycles p = i.form.cost p := by
  cases i <;> dsimp only [Instr.cycles, Instr.opcode] <;> rfl

theorem cycles_instr (p : Params) (f : Form) : f.instr.cycles p = f.cost p := by
  rw [cycles_eq_cost, form_instr]

theorem condCycles_pick_eq (k : CondCycles) (a b : Nat) : k.pick a b = if k = .taken then a else b := by
  cases k <;> rfl

theorem undocAlias_pick_eq (u : UndocAlias) (a b : Nat) : u.pick a b = if u = .chip then b else a := by
  cases u <;> rfl

/-- Settles O6, from the cost of each form. -/
theorem costsOfTheTable : Obligations.CostsOfTheTable := by
  unfold Obligations.CostsOfTheTable
  intro p
  simp [cycles_instr, Form.cost, condCycles_pick_eq, undocAlias_pick_eq]

/-! ## The step -/

theorem effect_cfg (f : Form) (s : State) : (f.effect s).cfg = s.cfg := by
  obtain ⟨_, _, _, _, h⟩ | ⟨-, _, _, _, h⟩ | ⟨-, _, _, h⟩ | ⟨-, _, h⟩ | ⟨-, _, h⟩ := effect_cases f s <;> rw [h]

theorem effect_draws (f : Form) (s : State) : (f.effect s).draws = s.draws := by
  obtain ⟨_, _, _, _, h⟩ | ⟨-, _, _, _, h⟩ | ⟨-, _, _, h⟩ | ⟨-, _, h⟩ | ⟨-, _, h⟩ := effect_cases f s <;> rw [h]

theorem memRead_of_bytesAt {s : State} {a : Word} {i : Instr} (h : s.bytesAt a i.length = encode i) :
    s.memRead a = i.opcode := by
  rw [show i.length = i.operandBytes.length + 1 from rfl, bytesAt_succ] at h
  exact (List.cons.inj h).1

/-- The fetch answers the well-formed instruction whose bytes stand at pc: both have the opcode byte there, so as many bytes. -/
theorem fetchInstr_of_bytesAt {s : State} {i : Instr} (hi : i.wellFormed s.cfg.undocAlias = true)
    (h : s.bytesAt s.pc i.length = encode i) :
    s.fetchInstr = (i, { s with pc := s.pc + BitVec.ofNat 16 i.length }) := by
  have hj := fetchInstr_wellFormed s
  obtain ⟨hbytes, hpc⟩ := fetchInstr_bytes s
  have hlen : s.fetchInstr.1.length = i.length := by
    rw [length_of_wellFormed hj, length_of_wellFormed hi, ← memRead_of_bytesAt hbytes.symm, ← memRead_of_bytesAt h]
  have hfetch : s.fetchInstr.1 = i := encode_injOn hj hi (by rw [hbytes, hlen, h])
  exact Prod.ext hfetch (by rw [hpc, hlen])

/-- Settles O7: the fetch answers that instruction, and no effect writes the parameters or the step counter. -/
theorem stepRunsTheDecodedInstruction : Obligations.StepRunsTheDecodedInstruction := by
  unfold Obligations.StepRunsTheDecodedInstruction
  intro s i hs hi h
  refine ⟨_, exec_eq i _, ?_, ?_⟩
  · rw [step_eq, if_neg (by simp [hs]), fetchInstr_of_bytesAt hi h]
  · simp only [State.retire, State.hostTurn, effect_cfg, effect_draws]

end Sys2Proof
end

section
/-! PROOF. The data-transfer instructions: encoding and effect of MOV (O26), MVI (O27), LXI (O28), LDA, STA, LDAX and STAX (O29),
LHLD and SHLD (O30) and XCHG (O31). The effects are those `exec_eq` and `exec_instr` give. -/

namespace Sys2Proof

open Machine

/-! ## The bytes of an instruction -/

theorem wordBytes_append (hi lo : Byte) : wordBytes (hi ++ lo) = [lo, hi] := by
  rw [wordBytes, ← cat_eq, loByte_cat, hiByte_cat]

/-- The bytes of the row of a form, from its opcode as a number (O5). -/
theorem encode_instr {f : Form} {n : Nat} (h : f.instr.opcode.toNat = n) :
    encode f.instr = BitVec.ofNat 8 n :: f.operandBytes := by
  rw [encode, Instr.operandBytes, form_instr, ← h, BitVec.ofNat_toNat, BitVec.setWidth_eq]

/-- The bytes of an instruction with a 16-bit operand: the low byte stands first (R49, R54). -/
theorem encode_wordOperand {i : Instr} {hi lo : Byte} (h : i.operandBytes = wordBytes (hi ++ lo)) :
    encode i = [i.opcode, lo, hi] := by
  rw [encode, h, wordBytes_append]

/-! ## Pairs and their registers -/

namespace Machine

theorem setBC_append (s : State) (hi lo : Byte) : s.setBC (hi ++ lo) = (s.setReg .b hi).setReg .c lo := by
  rw [State.setBC, ← cat_eq, hiByte_cat, loByte_cat]

theorem setDE_append (s : State) (hi lo : Byte) : s.setDE (hi ++ lo) = (s.setReg .d hi).setReg .e lo := by
  rw [State.setDE, ← cat_eq, hiByte_cat, loByte_cat]

theorem setHL_append (s : State) (hi lo : Byte) : s.setHL (hi ++ lo) = (s.setReg .h hi).setReg .l lo := by
  rw [State.setHL, ← cat_eq, hiByte_cat, loByte_cat]

theorem loadHL_eq (s : State) (a : Word) :
    s.loadHL a = (s.setReg .h (s.memRead (a + 1))).setReg .l (s.memRead a) :=
  setHL_append s _ _

theorem storeHL_eq (s : State) (a : Word) : s.storeHL a = (s.memWrite a (s.reg .l)).memWrite (a + 1) (s.reg .h) := by
  rw [State.storeHL, State.memWrite16, State.hl, loByte_cat, hiByte_cat]

/-- XCHG writes D, E, H and L only: each takes the value its partner had before (R76). -/
theorem exchange_eq (s : State) :
    s.exchange =
      { s with regs := { s.regs with d := s.reg .h, e := s.reg .l, h := s.reg .d, l := s.reg .e } } := by
  have hHL : s.setHL s.de = (s.setReg .h (s.reg .d)).setReg .l (s.reg .e) := setHL_append s _ _
  rw [State.exchange, hHL]
  exact setDE_append _ (s.reg .h) (s.reg .l)

theorem exchange_exchange (s : State) : s.exchange.exchange = s := by
  rw [exchange_eq, exchange_eq]
  rfl

end Machine

/-! ## The statements -/

/-- Settles O26, from the opcode and the effect of each of the three forms. -/
theorem movEffect : Obligations.MovEffect := by
  unfold Obligations.MovEffect
  obtain ⟨hRR, hRM, hMR, -⟩ := opcodesHaveTheirFieldCodes
  exact ⟨fun dst src s => ⟨encode_instr (hRR dst src), exec_instr _ s⟩,
    fun dst s => ⟨encode_instr (hRM dst), exec_instr _ s⟩,
    fun src s => ⟨encode_instr (hMR src), exec_instr _ s⟩⟩

/-- Settles O27, from the opcode and the effect of each of the two forms. -/
theorem mviEffect : Obligations.MviEffect := by
  unfold Obligations.MviEffect
  obtain ⟨-, -, -, hR, hM, -⟩ := opcodesHaveTheirFieldCodes
  exact ⟨fun dst d8 s => ⟨encode_instr (hR dst d8), exec_instr _ s⟩,
    fun d8 s => ⟨encode_instr (hM d8), exec_instr _ s⟩⟩

/-- Settles O28: a pair takes the two bytes of the operand, sp the word. -/
theorem lxiEffect : Obligations.LxiEffect := by
  unfold Obligations.LxiEffect
  intro lo hi s
  refine ⟨encode_wordOperand rfl, ?_, encode_wordOperand rfl, ?_, encode_wordOperand rfl, ?_,
    encode_wordOperand rfl, exec_eq _ s⟩
  · rw [← setBC_append]
    exact exec_eq _ s
  · rw [← setDE_append]
    exact exec_eq _ s
  · rw [← setHL_append]
    exact exec_eq _ s

/-- Settles O29: each effect is one register write or one memory write. -/
theorem accumulatorLoadStoreEffect : Obligations.AccumulatorLoadStoreEffect := by
  unfold Obligations.AccumulatorLoadStoreEffect
  intro lo hi s
  exact ⟨encode_wordOperand rfl, exec_eq _ s, encode_wordOperand rfl, exec_eq _ s,
    rfl, exec_eq _ s, rfl, exec_eq _ s, rfl, exec_eq _ s, rfl, exec_eq _ s⟩

/-- Settles O30, byte by byte of the word that is loaded or stored. -/
theorem directPairEffect : Obligations.DirectPairEffect := by
  unfold Obligations.DirectPairEffect
  intro lo hi s
  refine ⟨encode_wordOperand rfl, ?_, encode_wordOperand rfl, ?_⟩
  · rw [← loadHL_eq]
    exact exec_eq _ s
  · rw [← storeHL_eq]
    exact exec_eq _ s

/-- Settles O31: the exchange is its own inverse. -/
theorem xchgEffect : Obligations.XchgEffect := by
  unfold Obligations.XchgEffect
  refine ⟨rfl, fun s => ⟨s.exchange, exec_eq _ s, exchange_eq s, ?_⟩⟩
  calc exec .xchg s.exchange = .next s.exchange.exchange := exec_eq _ _
    _ = .next s := by rw [exchange_exchange]

end Sys2Proof

end

section
/-! PROOF. The arithmetic instructions: encoding and effect of the additions (O32), the subtractions (O33, O34), INR and DCR (O35),
INX and DCX (O36), DAD (O37) and DAA (O38), and ADC followed by DAA as decimal addition (O39). -/

namespace Sys2Proof

open Machine

/-! ## The row of a form -/

theorem exec_of_effect {f : Form} {s t : State} (h : f.effect s = t) : exec f.instr s = .next t := by
  rw [exec_instr, h]

theorem encode_alu (op : AluOp) (src : Opnd) :
    encode (Form.alu op src).instr = [BitVec.ofNat 8 (128 + 8 * op.code + src.code)] := by
  obtain ⟨-, -, -, -, -, -, -, -, -, -, -, -, -, hAlu, -⟩ := opcodesHaveTheirFieldCodes
  exact encode_instr (hAlu op src)

namespace Machine

/-! ## Increment and decrement -/

/-- The flags of INR and DCR, as `resultFlags` writes them. -/
theorem flagsKeepCarry_eq (o : AluOut) (old : Flags) : o.flagsKeepCarry old = resultFlags o.r o.ac old.cy := by
  rw [AluOut.flagsKeepCarry, aluFlags_eq]
  rfl

/-- Adding one carries out of the low digit where that is 15 (R88, D8). -/
theorem add8_one (v : Byte) : (add8 v 1 false).r = v + 1 ∧ (add8 v 1 false).ac = decide (v.toNat % 16 = 15) := by
  have hone : (1 : Byte).toNat = 1 := rfl
  rw [add8_eq, Bool.toNat_false, hone]
  constructor
  · apply BitVec.eq_of_toNat_eq
    rw [BitVec.toNat_ofNat, BitVec.toNat_add, hone]
  · rw [decide_eq_decide]
    omega

/-- Taking one away borrows from the low digit where that is 0 (R89, D8). -/
theorem sub8_one (v : Byte) : (sub8 v 1 false).r = v - 1 ∧ (sub8 v 1 false).ac = decide (v.toNat % 16 ≠ 0) := by
  have hone : (1 : Byte).toNat = 1 := rfl
  rw [sub8_eq, Bool.toNat_false, hone]
  constructor
  · apply BitVec.eq_of_toNat_eq
    rw [BitVec.toNat_ofNat, BitVec.toNat_sub, hone]
    omega
  · rw [decide_eq_decide]
    omega

theorem increment_eq (s : State) (dst : Opnd) : s.increment dst = { s.write8 dst (s.read8 dst + 1) with
    flags := resultFlags (s.read8 dst + 1) (decide ((s.read8 dst).toNat % 16 = 15)) s.flags.cy } := by
  obtain ⟨hr, hac⟩ := add8_one (s.read8 dst)
  simp only [State.increment, flagsKeepCarry_eq, hr, hac]

theorem decrement_eq (s : State) (dst : Opnd) : s.decrement dst = { s.write8 dst (s.read8 dst - 1) with
    flags := resultFlags (s.read8 dst - 1) (decide ((s.read8 dst).toNat % 16 ≠ 0)) s.flags.cy } := by
  obtain ⟨hr, hac⟩ := sub8_one (s.read8 dst)
  simp only [State.decrement, flagsKeepCarry_eq, hr, hac]

/-! ## Pairs -/

/-- Writing a pair writes registers and sp only. -/
theorem setPair_eq (s : State) (p : Pair) (v : Word) :
    s.setPair p v = { s with regs := (s.setPair p v).regs, sp := (s.setPair p v).sp } := by
  cases p <;> rfl

theorem toNat_word_add_one (v : Word) : (v + 1).toNat = (v.toNat + 1) % 65536 := (eq_add_one_iff_toNat v _).1 rfl

theorem toNat_word_sub_one (v : Word) : (v - 1).toNat = (v.toNat + 65535) % 65536 := by
  rw [BitVec.toNat_sub, Nat.add_comm]
  rfl

/-! ## Decimal adjust -/

/-- The condition of stage 1 of DAA on the number `a` in A (R93). -/
def daaLow (a : Nat) (ac : Bool) : Bool := decide (9 < a % 16) || ac

/-- The sum of stage 1 of DAA, untruncated (D9). -/
def daaSum (a : Nat) (ac : Bool) : Nat := a + 6 * (daaLow a ac).toNat

/-- The condition of stage 2 of DAA on the stage-1 sum `t` (R93). -/
def daaHigh (t : Nat) (cy : Bool) : Bool := decide (9 < t / 16) || cy

theorem ite_eq_mul_toNat (b : Bool) (n : Nat) : (if b then n else 0) = n * b.toNat := by
  cases b <;> simp

theorem toNat_decide (p : Prop) [Decidable p] : (decide p).toNat = if p then 1 else 0 := Bool.cond_decide p 1 0

/-- `daa8` as arithmetic on numbers (R93). -/
theorem daa8_eq (a : Byte) (ac cy : Bool) :
    daa8 a ac cy = { r := BitVec.ofNat 8 (daaSum a.toNat ac + 96 * (daaHigh (daaSum a.toNat ac) cy).toNat)
                     cy := daaHigh (daaSum a.toNat ac) cy
                     ac := daaLow a.toNat ac && decide (9 < a.toNat % 16) } := by
  have hcarry : decide (15 < a.toNat % 16 + 6) = decide (9 < a.toNat % 16) := by
    rw [decide_eq_decide]
    omega
  simp only [daa8, daaSum, daaHigh, daaLow, lowNibble_eq, ite_eq_mul_toNat, Nat.shiftRight_eq_div_pow, gt_iff_lt, hcarry]
  rfl

theorem decimalAdjust_eq (s : State) : s.decimalAdjust =
    s.withResult ((daa8 (s.reg .a) s.flags.ac s.flags.cy).r, (daa8 (s.reg .a) s.flags.ac s.flags.cy).flags) := rfl

/-! ## Decimal addition -/

/-- What ADC and then DAA make of two bytes and a carry. -/
def decimalSum (a b : Byte) (c : Bool) : AluOut := daa8 (add8 a b c).r (add8 a b c).ac (add8 a b c).cy

theorem decimalAdjust_alu_adc (s : State) (b : Byte) :
    (s.alu .adc b).decimalAdjust.reg .a = (decimalSum (s.reg .a) b s.flags.cy).r ∧
    (s.alu .adc b).decimalAdjust.flags.cy = (decimalSum (s.reg .a) b s.flags.cy).cy := ⟨rfl, rfl⟩

theorem isBcd_iff (v : Byte) : isBcd v = true ↔ v.toNat % 16 ≤ 9 ∧ v.toNat / 16 ≤ 9 := by
  rw [isBcd, Bool.and_eq_true, decide_eq_true_iff, decide_eq_true_iff]

/-- Stage 1 of DAA finds the decimal carry out of the low digits: a low digit above 9 where binary addition kept it in the
digit, AC where it did not. -/
theorem daaLow_add8 {a b : Byte} (c : Bool) (ha : isBcd a = true) (hb : isBcd b = true) :
    daaLow (add8 a b c).r.toNat (add8 a b c).ac = decide (10 ≤ a.toNat % 16 + b.toNat % 16 + c.toNat) := by
  obtain ⟨ha0, -⟩ := (isBcd_iff a).1 ha
  obtain ⟨hb0, -⟩ := (isBcd_iff b).1 hb
  have hc := Bool.toNat_le c
  rw [daaLow, add8_eq, ← Bool.decide_or, decide_eq_decide, BitVec.toNat_ofNat]
  omega

/-- Stage 2 of DAA finds the decimal carry out of the high digits. -/
theorem daaHigh_add8 {a b : Byte} (c : Bool) (ha : isBcd a = true) (hb : isBcd b = true) :
    daaHigh (daaSum (add8 a b c).r.toNat (add8 a b c).ac) (add8 a b c).cy =
      decide (100 ≤ bcdValue a + bcdValue b + c.toNat) := by
  obtain ⟨ha0, ha1⟩ := (isBcd_iff a).1 ha
  obtain ⟨hb0, hb1⟩ := (isBcd_iff b).1 hb
  have hc := Bool.toNat_le c
  rw [daaSum, daaLow_add8 c ha hb, toNat_decide, daaHigh, add8_eq, ← Bool.decide_or, decide_eq_decide,
    BitVec.toNat_ofNat, bcdValue, bcdValue]
  split_ifs <;> omega

/-- A decimal carry out of the low digits adds 6, and one out of the high digits takes 160 away. -/
theorem toNat_decimalSum {a b : Byte} (c : Bool) (ha : isBcd a = true) (hb : isBcd b = true) :
    (decimalSum a b c).r.toNat + 160 * (decimalSum a b c).cy.toNat =
      a.toNat + b.toNat + c.toNat + 6 * (decide (10 ≤ a.toNat % 16 + b.toNat % 16 + c.toNat)).toNat := by
  have hhigh := daaHigh_add8 c ha hb
  obtain ⟨ha0, ha1⟩ := (isBcd_iff a).1 ha
  obtain ⟨hb0, hb1⟩ := (isBcd_iff b).1 hb
  have hc := Bool.toNat_le c
  rw [decimalSum, daa8_eq]
  dsimp only
  rw [hhigh, daaSum, daaLow_add8 c ha hb, add8_eq, BitVec.toNat_ofNat, BitVec.toNat_ofNat, bcdValue, bcdValue]
  simp only [toNat_decide]
  split_ifs <;> omega

theorem decimalSum_cy {a b : Byte} (c : Bool) (ha : isBcd a = true) (hb : isBcd b = true) :
    (decimalSum a b c).cy = decide (100 ≤ bcdValue a + bcdValue b + c.toNat) := by
  rw [← daaHigh_add8 c ha hb, decimalSum, daa8_eq]

/-- A decimal sum has two digits again, and CY is worth 100 (R93, D9). -/
theorem decimalSum_digits {a b : Byte} (c : Bool) (ha : isBcd a = true) (hb : isBcd b = true) :
    isBcd (decimalSum a b c).r = true ∧
    100 * (decimalSum a b c).cy.toNat + bcdValue (decimalSum a b c).r = bcdValue a + bcdValue b + c.toNat := by
  have hsum := toNat_decimalSum c ha hb
  obtain ⟨ha0, ha1⟩ := (isBcd_iff a).1 ha
  obtain ⟨hb0, hb1⟩ := (isBcd_iff b).1 hb
  have hc := Bool.toNat_le c
  rw [decimalSum_cy c ha hb, toNat_decide, toNat_decide] at hsum
  rw [decimalSum_cy c ha hb, toNat_decide, isBcd_iff]
  split_ifs at hsum ⊢ with hhigh hlow hlow <;> simp only [bcdValue] at hhigh ⊢ <;> omega

end Machine

/-! ## The statements -/

/-- Settles O32, from the opcode of each row and the sum as arithmetic. -/
theorem additionEffect : Obligations.AdditionEffect := by
  unfold Obligations.AdditionEffect
  refine ⟨fun src s => ?_, fun d8 s => ?_⟩
  · obtain ⟨hAdd, hAdc⟩ := alu_add_eq s (s.read8 src)
    exact ⟨encode_alu .add src, exec_of_effect hAdd, encode_alu .adc src, exec_of_effect hAdc⟩
  · obtain ⟨hAdd, hAdc⟩ := alu_add_eq s d8
    exact ⟨rfl, exec_of_effect (f := .aluImm .add d8) hAdd, rfl, exec_of_effect (f := .aluImm .adc d8) hAdc⟩

/-- Settles O33, from the opcode of each row and the difference as arithmetic. -/
theorem subtractionEffect : Obligations.SubtractionEffect := by
  unfold Obligations.SubtractionEffect
  refine ⟨fun src s => ?_, fun d8 s => ?_⟩
  · obtain ⟨hSub, hSbb⟩ := alu_sub_eq s (s.read8 src)
    exact ⟨encode_alu .sub src, exec_of_effect hSub, encode_alu .sbb src, exec_of_effect hSbb⟩
  · obtain ⟨hSub, hSbb⟩ := alu_sub_eq s d8
    exact ⟨rfl, exec_of_effect (f := .aluImm .sub d8) hSub, rfl, exec_of_effect (f := .aluImm .sbb d8) hSbb⟩

/-- Settles O34: the complement of `b` is `255 - b` and that of the borrow is `1 - bin`. -/
theorem subtractionIsAdditionOfComplement : Obligations.SubtractionIsAdditionOfComplement := by
  unfold Obligations.SubtractionIsAdditionOfComplement
  intro a b bin
  have hb : (~~~b).toNat = 255 - b.toNat := BitVec.toNat_not
  have hbin : (!bin).toNat = 1 - bin.toNat := by cases bin <;> rfl
  have hle := Bool.toNat_le bin
  rw [sub8_eq, add8_eq, hb, hbin]
  refine ⟨?_, ?_, ?_⟩
  · apply BitVec.eq_of_toNat_eq
    rw [BitVec.toNat_ofNat, BitVec.toNat_ofNat]
    omega
  · rw [decide_eq_decide]
    omega
  · rw [← decide_not, decide_eq_decide]
    omega

/-- Settles O35, from the effect of INR and of DCR on any operand. -/
theorem incrementDecrementEffect : Obligations.IncrementDecrementEffect := by
  unfold Obligations.IncrementDecrementEffect
  obtain ⟨-, -, -, -, -, hInr, hDcr, -⟩ := opcodesHaveTheirFieldCodes
  exact fun dst s => ⟨encode_instr (hInr dst), encode_instr (hDcr dst),
    exec_of_effect (increment_eq s dst), exec_of_effect (decrement_eq s dst)⟩

/-- Settles O36: the pair reads as the word written to it, and nothing else is written. -/
theorem pairStepEffect : Obligations.PairStepEffect := by
  unfold Obligations.PairStepEffect
  obtain ⟨-, -, -, -, -, -, -, -, hInx, -, hDcx, -⟩ := opcodesHaveTheirFieldCodes
  constructor
  · refine fun p s => ⟨encode_instr (hInx p), s.incPair p, exec_instr _ s, ?_,
      reg_setPair s p _, fun hp => setPair_sp s (beq_false_of_ne hp) _, setPair_eq s p _⟩
    rw [State.incPair, pair_setPair, toNat_word_add_one]
  · refine fun p s => ⟨encode_instr (hDcx p), s.decPair p, exec_instr _ s, ?_,
      reg_setPair s p _, fun hp => setPair_sp s (beq_false_of_ne hp) _, setPair_eq s p _⟩
    rw [State.decPair, pair_setPair, toNat_word_sub_one]

/-- Settles O37: HL is written as a pair, and CY beside it. -/
theorem doubleAddEffect : Obligations.DoubleAddEffect := by
  unfold Obligations.DoubleAddEffect
  obtain ⟨-, -, -, -, -, -, -, -, -, hDad, -⟩ := opcodesHaveTheirFieldCodes
  refine fun p s => ⟨encode_instr (hDad p), s.addPair p, exec_instr _ s, ?_, rfl, fun r hh hl => ?_, rfl⟩
  · have hHL : (s.addPair p).hl = BitVec.ofNat 16 (s.hl.toNat + (s.pair p).toNat) := pair_setPair s .hl _
    rw [hHL, BitVec.toNat_ofNat]
  · exact reg_setPair s .hl _ r (by simp [Pair.regs, hh, hl])

/-- Settles O38: the two stages of DAA, as conditions on numbers. -/
theorem decimalAdjustEffect : Obligations.DecimalAdjustEffect := by
  unfold Obligations.DecimalAdjustEffect
  refine ⟨rfl, fun s => exec_of_effect (f := .daa) ?_⟩
  rw [Form.effect, decimalAdjust_eq, aluFlags_eq, daa8_eq]
  rfl

/-- Settles O39, from the decimal sum of two bytes. -/
theorem decimalAddition : Obligations.DecimalAddition := by
  unfold Obligations.DecimalAddition
  intro src s ha hb
  refine ⟨s.alu .adc (s.read8 src), _, exec_instr _ s, exec_instr .daa _, ?_⟩
  obtain ⟨hA, hCy⟩ := decimalAdjust_alu_adc s (s.read8 src)
  rw [Form.effect, hA, hCy]
  exact decimalSum_digits s.flags.cy ha hb

end Sys2Proof

end

section
/-! PROOF. The logical instructions: encoding and effect of AND, exclusive OR and OR (O40), of the compares (O41), of the rotates
(O42, O43) and of CMA, CMC and STC (O44). -/

namespace Sys2Proof

open Machine

namespace Machine

/-! ## Logic and compare -/

theorem mask_bit3 (v : Byte) : (v &&& 0x08 != 0) = v.getLsbD 3 := by
  have hmask : v &&& 0x08 = if v.getLsbD 3 then 0x08 else 0 := BitVec.and_twoPow v 3
  rw [hmask]
  cases v.getLsbD 3 <;> rfl

/-- AC of an AND is bit 3 of either operand (R94). -/
theorem and8_eq (a b : Byte) :
    and8 a b = { r := a &&& b, cy := false, ac := a.getLsbD 3 || b.getLsbD 3 } := by
  rw [and8, mask_bit3, BitVec.getLsbD_or]

/-- An operation other than a compare writes A and all flags. -/
theorem alu_eq_withResult (s : State) {op : AluOp} (h : aluWritesA op = true) (b : Byte) {o : AluOut}
    (ho : aluCompute op (s.reg .a) b s.flags.cy = o) : s.alu op b = s.withResult (o.r, resultFlags o.r o.ac o.cy) := by
  rw [State.alu, ho, if_pos h, aluFlags_eq]
  rfl

/-- AND, exclusive OR and OR into A (R95 to R97). -/
theorem alu_logic_eq (s : State) (b : Byte) :
    s.alu .ana b = s.withResult (s.reg .a &&& b,
      resultFlags (s.reg .a &&& b) ((s.reg .a).getLsbD 3 || b.getLsbD 3) false) ∧
    s.alu .xra b = s.withResult (s.reg .a ^^^ b, resultFlags (s.reg .a ^^^ b) false false) ∧
    s.alu .ora b = s.withResult (s.reg .a ||| b, resultFlags (s.reg .a ||| b) false false) :=
  ⟨alu_eq_withResult s (op := .ana) rfl b (and8_eq _ b), alu_eq_withResult s rfl b rfl, alu_eq_withResult s rfl b rfl⟩

/-- The flags of a subtraction without borrow compare its operands: Z says equal, CY says below. -/
theorem differenceResult_compares (a b : Byte) :
    ((differenceResult a.toNat b.toNat 0).2.z = true ↔ a = b) ∧
    ((differenceResult a.toNat b.toNat 0).2.cy = true ↔ a.toNat < b.toNat) := by
  have ha := a.isLt
  have hb := b.isLt
  simp only [differenceResult, resultFlags, decide_eq_true_iff, BitVec.toNat_ofNat, ← BitVec.toNat_inj]
  omega

/-! ## Rotates -/

theorem toNat_bitByte (b : Bool) : (bitByte b).toNat = b.toNat := by
  cases b <;> rfl

theorem low_bit (a : Byte) : a.getLsbD 0 = decide (a.toNat % 2 = 1) := Nat.testBit_zero a.toNat

/-- A left rotate that brings `c` in as bit 0 doubles the byte and adds `c`: the bits do not meet (R105). -/
theorem ral8_eq (a : Byte) (c : Bool) :
    ral8 a c = (BitVec.ofNat 8 (2 * a.toNat + c.toNat), decide (128 ≤ a.toNat)) := by
  have hc : c.toNat < 2 ^ 1 := c.toNat_lt
  have hshift : (a <<< 1).toNat = 2 ^ 1 * (a.toNat % 128) := by
    rw [BitVec.toNat_shiftLeft, Nat.shiftLeft_eq]
    omega
  rw [ral8, sign_bit, Prod.mk.injEq]
  refine ⟨BitVec.eq_of_toNat_eq ?_, rfl⟩
  rw [BitVec.toNat_or, hshift, toNat_bitByte, ← Nat.two_pow_add_eq_or_of_lt hc, BitVec.toNat_ofNat]
  omega

/-- A right rotate that brings `c` in as bit 7 halves the byte and adds `128 * c`: the bits do not meet (R106). -/
theorem rar8_eq (a : Byte) (c : Bool) :
    rar8 a c = (BitVec.ofNat 8 (a.toNat / 2 + 128 * c.toNat), decide (a.toNat % 2 = 1)) := by
  have ha := a.isLt
  have hc := c.toNat_le
  have hhalf : a.toNat / 2 < 2 ^ 7 := by omega
  have hshift : (bitByte c <<< 7).toNat = 2 ^ 7 * c.toNat := by
    rw [BitVec.toNat_shiftLeft, Nat.shiftLeft_eq, toNat_bitByte]
    omega
  rw [rar8, low_bit, Prod.mk.injEq]
  refine ⟨BitVec.eq_of_toNat_eq ?_, rfl⟩
  rw [BitVec.toNat_or, BitVec.toNat_ushiftRight, hshift, Nat.shiftRight_eq_div_pow, Nat.or_comm,
    ← Nat.two_pow_add_eq_or_of_lt hhalf, BitVec.toNat_ofNat]
  omega

/-- RLC is the left rotate that brings bit 7 back in (R103). -/
theorem rlc8_eq (a : Byte) :
    rlc8 a = (BitVec.ofNat 8 (2 * a.toNat + a.toNat / 128), decide (128 ≤ a.toNat)) := by
  have hbit : (a.getLsbD 7).toNat = a.toNat / 128 := by
    have ha := a.isLt
    rw [sign_bit, toNat_decide]
    split_ifs <;> omega
  have h := ral8_eq a (a.getLsbD 7)
  rwa [hbit] at h

/-- RRC is the right rotate that brings bit 0 back in (R104). -/
theorem rrc8_eq (a : Byte) :
    rrc8 a = (BitVec.ofNat 8 (a.toNat / 2 + 128 * (a.toNat % 2)), decide (a.toNat % 2 = 1)) := by
  have hbit : (a.getLsbD 0).toNat = a.toNat % 2 := by
    rw [low_bit, toNat_decide]
    split_ifs <;> omega
  have h := rar8_eq a (a.getLsbD 0)
  rwa [hbit] at h

theorem decide_eq_of_iff_toNat {q : Prop} [Decidable q] {c : Bool} (h : q ↔ c.toNat = 1) : decide q = c := by
  rw [Bool.eq_iff_iff, decide_eq_true_iff, h, Bool.toNat_eq_one]

theorem rar8_ral8 (a : Byte) (c : Bool) : rar8 (ral8 a c).1 (ral8 a c).2 = (a, c) := by
  have ha := a.isLt
  have hc := c.toNat_le
  rw [ral8_eq, rar8_eq, Prod.mk.injEq]
  refine ⟨BitVec.eq_of_toNat_eq ?_, decide_eq_of_iff_toNat ?_⟩ <;> rw [BitVec.toNat_ofNat]
  · rw [BitVec.toNat_ofNat, toNat_decide]
    split_ifs <;> omega
  · omega

theorem ral8_rar8 (a : Byte) (c : Bool) : ral8 (rar8 a c).1 (rar8 a c).2 = (a, c) := by
  have ha := a.isLt
  have hc := c.toNat_le
  rw [rar8_eq, ral8_eq, Prod.mk.injEq]
  refine ⟨BitVec.eq_of_toNat_eq ?_, decide_eq_of_iff_toNat ?_⟩ <;> rw [BitVec.toNat_ofNat]
  · rw [BitVec.toNat_ofNat, toNat_decide]
    split_ifs <;> omega
  · omega

theorem setRotated_setRotated (s : State) (o o' : Byte × Bool) : (s.setRotated o).setRotated o' = s.setRotated o' := rfl

theorem setRotated_self (s : State) : s.setRotated (s.reg .a, s.flags.cy) = s := rfl

theorem rotateRightCarry_rotateLeftCarry (s : State) : s.rotateLeftCarry.rotateRightCarry = s :=
  calc s.rotateLeftCarry.rotateRightCarry
    _ = s.setRotated (rar8 (ral8 (s.reg .a) s.flags.cy).1 (ral8 (s.reg .a) s.flags.cy).2) := setRotated_setRotated s _ _
    _ = s := by rw [rar8_ral8, setRotated_self]

theorem rotateLeftCarry_rotateRightCarry (s : State) : s.rotateRightCarry.rotateLeftCarry = s :=
  calc s.rotateRightCarry.rotateLeftCarry
    _ = s.setRotated (ral8 (rar8 (s.reg .a) s.flags.cy).1 (rar8 (s.reg .a) s.flags.cy).2) := setRotated_setRotated s _ _
    _ = s := by rw [ral8_rar8, setRotated_self]

/-- The effect of a rotate, from the byte and the carry it makes. -/
theorem exec_rotate {i : Instr} {s : State} {o : Byte × Bool} {v : Byte} {c : Bool}
    (h : i.form.effect s = s.setRotated o) (ho : o = (v, c)) :
    exec i s = .next { s.setReg .a v with flags := { s.flags with cy := c } } := by
  rw [exec_eq, h, ho, State.setRotated]

/-! ## Complement -/

theorem complement_eq (v : Byte) : ~~~v = BitVec.ofNat 8 (255 - v.toNat) := by
  apply BitVec.eq_of_toNat_eq
  rw [BitVec.toNat_not, BitVec.toNat_ofNat]
  omega

end Machine

/-! ## The statements -/

/-- Settles O40, from the opcode of each row and the effect of the three operations. -/
theorem logicEffect : Obligations.LogicEffect := by
  unfold Obligations.LogicEffect
  refine ⟨fun src s => ?_, fun d8 s => ?_⟩
  · obtain ⟨hAna, hXra, hOra⟩ := alu_logic_eq s (s.read8 src)
    exact ⟨encode_alu .ana src, exec_of_effect hAna, encode_alu .xra src, exec_of_effect hXra,
      encode_alu .ora src, exec_of_effect hOra⟩
  · obtain ⟨hAni, hXri, hOri⟩ := alu_logic_eq s d8
    exact ⟨rfl, exec_of_effect (f := .aluImm .ana d8) hAni, rfl, exec_of_effect (f := .aluImm .xra d8) hXri,
      rfl, exec_of_effect (f := .aluImm .ora d8) hOri⟩

/-- Settles O41: the flags are those of the subtraction, which compare its operands. -/
theorem compareEffect : Obligations.CompareEffect := by
  unfold Obligations.CompareEffect
  refine ⟨fun src s => ⟨_, encode_alu .cmp src, exec_of_effect (alu_cmp_eq s _), rfl, ?_⟩,
    fun d8 s => ⟨_, rfl, exec_of_effect (f := .aluImm .cmp d8) (alu_cmp_eq s d8), rfl, ?_⟩⟩
  · exact differenceResult_compares (s.reg .a) (s.read8 src)
  · exact differenceResult_compares (s.reg .a) d8

/-- Settles O42, from each rotate as arithmetic. -/
theorem rotateEffect : Obligations.RotateEffect := by
  unfold Obligations.RotateEffect
  exact ⟨rfl, rfl, rfl, rfl, fun s => ⟨exec_rotate rfl (rlc8_eq _), exec_rotate rfl (rrc8_eq _),
    exec_rotate rfl (ral8_eq _ _), exec_rotate rfl (rar8_eq _ _)⟩⟩

/-- Settles O43: the two rotates of the nine bits are inverse to each other. -/
theorem rotatesThroughCarryUndoEachOther : Obligations.RotatesThroughCarryUndoEachOther := by
  unfold Obligations.RotatesThroughCarryUndoEachOther
  exact fun s => ⟨s.rotateLeftCarry, s.rotateRightCarry,
    exec_eq _ s, exec_of_effect (f := .rar) (rotateRightCarry_rotateLeftCarry s),
    exec_eq _ s, exec_of_effect (f := .ral) (rotateLeftCarry_rotateRightCarry s)⟩

/-- Settles O44, from the complement of a byte and of a bit. -/
theorem complementAndCarryEffect : Obligations.ComplementAndCarryEffect := by
  unfold Obligations.ComplementAndCarryEffect
  refine ⟨rfl, rfl, rfl, fun s => ⟨?_, ?_, exec_eq _ s⟩⟩
  · rw [← complement_eq]
    exact exec_eq _ s
  · rw [Bool.decide_eq_false]
    exact exec_eq _ s

end Sys2Proof

end

section
/-! PROOF. The stack, where a pop undoes a push (O24, O52), and the branches: encoding and effect of JMP, PCHL, CALL and RST
(O45), of the conditional jumps (O46), calls (O47) and returns (O48), and the return from a call (O49). -/

namespace Sys2Proof

open Machine

namespace Machine

/-! ## A push and the pop after it -/

theorem memRead_push16_high (s : State) (v : Word) : (s.push16 v).memRead (s.sp - 1) = hiByte v := by
  rw [memRead_push16, if_neg (word_sub_ne s.sp), if_pos rfl]

theorem memRead_push16_low (s : State) (v : Word) : (s.push16 v).memRead (s.sp - 2) = loByte v := by
  rw [memRead_push16, if_pos rfl]

theorem memRead_push16_ne (s : State) (v : Word) {a : Word} (hhi : a ≠ s.sp - 1) (hlo : a ≠ s.sp - 2) :
    (s.push16 v).memRead a = s.memRead a :=
  memRead_push16_other s (by simpa [State.pushSlots] using ⟨hhi, hlo⟩) v

/-- After a push and a drop only the pushed bytes in memory are left. -/
theorem drop16_push16 (s : State) (v : Word) : (s.push16 v).drop16 = { s with mem := (s.push16 v).mem } := by
  rw [State.drop16, push16_sp, word_sub_two_add_two]
  rfl

/-- Writing a pair with its own value changes nothing: for PSW, the flag byte gives every flag back (R20, R21). -/
theorem setStackPair_stackPair (s : State) (p : StackPair) : s.setStackPair p (s.stackPair p) = s := by
  cases p with
  | bc => exact setBC_append s (s.reg .b) (s.reg .c)
  | de => exact setDE_append s (s.reg .d) (s.reg .e)
  | hl => exact setHL_append s (s.reg .h) (s.reg .l)
  | psw =>
    have hpsw : s.setPSW s.psw = { s.setReg .a (s.reg .a) with flags := s.flags } := by
      rw [State.setPSW, State.psw, hiByte_cat, loByte_cat, State.flagByte, ofByte_toByte]
    exact hpsw

theorem stackPair_drop16_push16 (s : State) (p : StackPair) (v : Word) :
    (s.push16 v).drop16.stackPair p = s.stackPair p := by
  cases p <;> rfl

/-- A pop gives the pair the value it was pushed with, which it still has. -/
theorem popPair_pushPair (s : State) (p : StackPair) :
    (s.pushPair p).popPair p = { s with mem := (s.pushPair p).mem } :=
  calc (s.pushPair p).popPair p
    _ = (s.pushPair p).drop16.setStackPair p (s.stackPair p) := by rw [State.popPair, State.pushPair, top16_push16]
    _ = (s.pushPair p).drop16.setStackPair p ((s.pushPair p).drop16.stackPair p) := by
      rw [State.pushPair, stackPair_drop16_push16]
    _ = (s.pushPair p).drop16 := setStackPair_stackPair _ p
    _ = { s with mem := (s.pushPair p).mem } := drop16_push16 s _

/-! ## A call and the return after it -/

theorem ret_eq (s : State) : s.ret = { s with pc := s.memRead (s.sp + 1) ++ s.memRead s.sp, sp := s.sp + 2 } := rfl

/-- A return goes back to the pc the call pushed, with the sp from before it. -/
theorem ret_call (s : State) (a16 : Word) : (s.call a16).ret = { s with mem := (s.push16 s.pc).mem } := by
  have hret : (s.call a16).ret = { (s.push16 s.pc).drop16 with pc := (s.push16 s.pc).top16 } := rfl
  rw [hret, top16_push16, drop16_push16]

end Machine

/-! ## The conditions -/

/-- The flag a condition is about (R112). -/
def Cond.flag (cond : Cond) (f : Flags) : Bool :=
  match cond with
  | .nz | .z => f.z
  | .nc | .c => f.cy
  | .po | .pe => f.p
  | .p | .m => f.s

/-- The value of its flag at which a condition holds (R112). -/
def Cond.value (cond : Cond) : Bool :=
  match cond with
  | .nz | .nc | .po | .p => false
  | .z | .c | .pe | .m => true

theorem condHolds_iff (cond : Cond) (f : Flags) : condHolds cond f = true ↔ cond.flag f = cond.value := by
  cases cond with
  | nz | nc | po | p => exact Iff.of_eq (Bool.not_eq_true' _)
  | z | c | pe | m => exact Iff.rfl

theorem jumpIf_eq (cond : Cond) (a16 : Word) (s : State) :
    s.jumpIf cond a16 = if cond.flag s.flags = cond.value then { s with pc := a16 } else s :=
  if_congr (condHolds_iff cond s.flags) rfl rfl

theorem callIf_eq (cond : Cond) (a16 : Word) (s : State) :
    s.callIf cond a16 = if cond.flag s.flags = cond.value then { s.push16 s.pc with pc := a16 } else s :=
  if_congr (condHolds_iff cond s.flags) rfl rfl

theorem retIf_eq (cond : Cond) (s : State) :
    s.retIf cond = if cond.flag s.flags = cond.value then s.ret else s :=
  if_congr (condHolds_iff cond s.flags) rfl rfl

/-! ## A row that calls, and the rows of a condition -/

/-- A return after a row whose effect is a call (CALL and RST). -/
theorem exec_call_ret {f : Form} {s : State} {a16 : Word} (h : f.effect s = s.call a16) :
    ∃ t u : State, exec f.instr s = .next t ∧ exec .ret t = .next u ∧ u = { s with mem := u.mem } ∧
      ∀ a : Word, a ≠ s.sp - 1 → a ≠ s.sp - 2 → u.memRead a = s.memRead a :=
  ⟨s.call a16, { s with mem := (s.push16 s.pc).mem }, exec_of_effect h,
    exec_of_effect (f := .ret) (ret_call s a16), rfl, fun _ hhi hlo => memRead_push16_ne s s.pc hhi hlo⟩

/-- Jcc, for every condition (R114, R54). -/
theorem jcc_row (cond : Cond) (lo hi : Byte) (s : State) :
    encode (Form.jcc cond (hi ++ lo)).instr = [BitVec.ofNat 8 (192 + 8 * cond.code + 2), lo, hi] ∧
    exec (Form.jcc cond (hi ++ lo)).instr s =
      .next (if cond.flag s.flags = cond.value then { s with pc := hi ++ lo } else s) := by
  obtain ⟨-, -, -, -, -, -, -, -, -, -, -, -, -, -, -, -, hJcc, -⟩ := opcodesHaveTheirFieldCodes
  refine ⟨?_, exec_of_effect (jumpIf_eq cond (hi ++ lo) s)⟩
  rw [encode_instr (hJcc cond (hi ++ lo)), Form.operandBytes, wordBytes_append]

/-- Ccc, for every condition (R124, R54). -/
theorem ccc_row (cond : Cond) (lo hi : Byte) (s : State) :
    encode (Form.ccc cond (hi ++ lo)).instr = [BitVec.ofNat 8 (192 + 8 * cond.code + 4), lo, hi] ∧
    exec (Form.ccc cond (hi ++ lo)).instr s =
      .next (if cond.flag s.flags = cond.value then { s.push16 s.pc with pc := hi ++ lo } else s) := by
  obtain ⟨-, -, -, -, -, -, -, -, -, -, -, -, -, -, -, -, -, hCcc, -⟩ := opcodesHaveTheirFieldCodes
  refine ⟨?_, exec_of_effect (callIf_eq cond (hi ++ lo) s)⟩
  rw [encode_instr (hCcc cond (hi ++ lo)), Form.operandBytes, wordBytes_append]

/-- Rcc, for every condition (R134). -/
theorem rcc_row (cond : Cond) (s : State) :
    encode (Form.rcc cond).instr = [BitVec.ofNat 8 (192 + 8 * cond.code)] ∧
    exec (Form.rcc cond).instr s =
      .next (if cond.flag s.flags = cond.value then s.ret else s) := by
  obtain ⟨-, -, -, -, -, -, -, -, -, -, -, -, -, -, -, hRcc, -⟩ := opcodesHaveTheirFieldCodes
  exact ⟨encode_instr (hRcc cond), exec_of_effect (retIf_eq cond s)⟩

/-! ## The statements -/

/-- Settles O24, from what a push leaves in memory. -/
theorem pushThenPop : Obligations.PushThenPop := by
  unfold Obligations.PushThenPop
  intro s v
  rw [← hiByte_eq_ofNat, ← loByte_eq_ofNat]
  exact ⟨memRead_push16_high s v, memRead_push16_low s v, fun _ hhi hlo => memRead_push16_ne s v hhi hlo,
    push16_sp s v, top16_push16 s v, drop16_push16_sp s v⟩

/-- Settles O49: a restart is a call, and a return undoes a call. -/
theorem callThenReturn : Obligations.CallThenReturn := by
  unfold Obligations.CallThenReturn
  exact ⟨fun a16 _ => exec_call_ret (f := .call a16) rfl, fun n _ => exec_call_ret (f := .rst n) rfl⟩

/-- Settles O52: the pair takes back the value it was pushed with. -/
theorem pushThenPopRestores : Obligations.PushThenPopRestores := by
  unfold Obligations.PushThenPopRestores
  exact fun p s => ⟨s.pushPair p, _, exec_instr _ s, exec_of_effect (f := .pop p) (popPair_pushPair s p), rfl⟩

/-- Settles O45, from the effect of each row. -/
theorem jumpCallRestartEffect : Obligations.JumpCallRestartEffect := by
  unfold Obligations.JumpCallRestartEffect
  refine ⟨fun lo hi s => ⟨encode_wordOperand rfl, exec_eq _ s, encode_wordOperand rfl, exec_eq _ s, rfl, exec_eq _ s⟩,
    fun n s => ⟨?_, exec_instr _ s⟩⟩
  obtain ⟨-, -, -, -, -, -, -, -, -, -, -, -, -, -, -, -, -, -, hRst, -⟩ := opcodesHaveTheirFieldCodes
  exact encode_instr ((hRst n).trans (by omega))

/-- Settles O46: each row is Jcc at its condition. -/
theorem conditionalJumpEffect : Obligations.ConditionalJumpEffect := by
  unfold Obligations.ConditionalJumpEffect
  exact fun lo hi s => ⟨jcc_row .nz lo hi s, jcc_row .z lo hi s, jcc_row .nc lo hi s, jcc_row .c lo hi s,
    jcc_row .po lo hi s, jcc_row .pe lo hi s, jcc_row .p lo hi s, jcc_row .m lo hi s⟩

/-- Settles O47: each row is Ccc at its condition. -/
theorem conditionalCallEffect : Obligations.ConditionalCallEffect := by
  unfold Obligations.ConditionalCallEffect
  exact fun lo hi s => ⟨ccc_row .nz lo hi s, ccc_row .z lo hi s, ccc_row .nc lo hi s, ccc_row .c lo hi s,
    ccc_row .po lo hi s, ccc_row .pe lo hi s, ccc_row .p lo hi s, ccc_row .m lo hi s⟩

/-- Settles O48: RET, and each conditional row as Rcc at its condition. -/
theorem returnEffect : Obligations.ReturnEffect := by
  unfold Obligations.ReturnEffect
  intro s
  rw [← ret_eq]
  exact ⟨⟨rfl, exec_eq _ s⟩, rcc_row .nz s, rcc_row .z s, rcc_row .nc s, rcc_row .c s,
    rcc_row .po s, rcc_row .pe s, rcc_row .p s, rcc_row .m s⟩

end Sys2Proof

end

section
/-! PROOF. A halted core has no transition (O10), and a step keeps the invariant (O14). -/

namespace Sys2Proof

open Machine

namespace Machine

/-! ## The canonical form of memory -/

/-- Two states with the same memory have it in the same form. -/
theorem wf_congr {s t : State} (hmem : t.mem = s.mem) (h : Memory.wf s.mem = true) : Memory.wf t.mem = true :=
  hmem ▸ h

theorem write8_wf (s : State) (o : Opnd) (v : Byte) (h : Memory.wf s.mem = true) :
    Memory.wf (s.write8 o v).mem = true := by
  cases o with
  | reg r => exact h
  | m => exact memWrite_wf s _ v h

theorem callIf_wf (cond : Cond) (a16 : Word) (s : State) (h : Memory.wf s.mem = true) :
    Memory.wf (s.callIf cond a16).mem = true := by
  unfold State.callIf
  split
  · exact push16_wf s s.pc h
  · exact h

/-! ## What the end of a step writes -/

@[simp] theorem retire_mem (i : Instr) (s : State) : (s.retire i).mem = s.mem := rfl
@[simp] theorem retire_ioLog (i : Instr) (s : State) : (s.retire i).ioLog = s.ioLog := rfl
@[simp] theorem retire_draws (i : Instr) (s : State) : (s.retire i).draws = s.draws + 1 := rfl

/-- The latch stops a step by name (R158). -/
theorem step_of_halted {s : State} (h : s.halted = true) : step s = .refused .stepWhileHalted := if_pos h

end Machine

/-- Each form keeps the canonical form of memory: the forms that store write at a 16-bit address, the rest leave memory as
it is. -/
theorem effect_wf (f : Form) (s : State) (h : Memory.wf s.mem = true) : Memory.wf (f.effect s).mem = true := by
  cases f with
  | movMR | mviM | sta | stax => exact memWrite_wf s _ _ h
  | inr o | dcr o => exact write8_wf s o _ h
  | shld | xthl => exact memWrite16_wf s _ _ h
  | push | call | rst => exact push16_wf s _ h
  | ccc cond a16 => exact callIf_wf cond a16 s h
  | undocCall k a16 =>
    cases a16 with
    | none => exact h
    | some a => exact push16_wf s _ h
  | lxi p | inx p | dcx p => exact wf_congr (setPair_mem s p _) h
  | pop p => exact wf_congr (setStackPair_mem s.drop16 p _) h
  | alu op | aluImm op => exact wf_congr (alu_mem s op _) h
  | jcc cond a16 => exact wf_congr (jumpIf_mem cond a16 s) h
  | rcc cond => exact wf_congr (retIf_mem cond s) h
  | undocRet => exact wf_congr (undocReturn_mem s) h
  | inp port => exact wf_congr (portRead_mem s port) h
  | outp port => exact wf_congr (portWrite_mem s port) h
  | undocJmp a16 => cases a16 <;> exact h
  | _ => exact h

theorem effect_ioLog_length (f : Form) (s : State) : (f.effect s).ioLog.length ≤ s.ioLog.length + 1 := by
  obtain h | ⟨e, h⟩ := effect_ioLog_grows f s
  · rw [h]
    exact Nat.le_succ _
  · rw [h, List.length_append]
    rfl

/-- An execute phase and the end of the step keep the invariant: the log grows by at most one transaction, the counter by one. -/
theorem retire_effect_inv (f : Form) (i : Instr) {s : State} (h : s.Inv) : ((f.effect s).retire i).Inv := by
  obtain ⟨hwf, hlog⟩ := h
  rw [State.Inv, retire_mem, retire_ioLog, retire_draws, effect_draws]
  exact ⟨effect_wf f s hwf, (effect_ioLog_length f s).trans (Nat.succ_le_succ hlog)⟩

/-! ## The statements -/

/-- Settles O10: each operation of the host asks for the latch first. -/
theorem haltedCoreHasNoTransition : Obligations.HaltedCoreHasNoTransition := by
  unfold Obligations.HaltedCoreHasNoTransition
  refine fun op s h => ⟨?_, step_of_halted h⟩
  cases op with
  | step ioPresent => exact ⟨.stepWhileHalted, step_of_halted h⟩
  | interrupt n => exact ⟨.interruptWhileHalted, if_pos h⟩
  | load offset bytes => exact ⟨.loadWhileHalted, if_pos h⟩

/-- Settles O14: the fetch moves pc only, and the execute phase and the end of the step keep the invariant. -/
theorem stepKeepsInvariant : Obligations.StepKeepsInvariant := by
  unfold Obligations.StepKeepsInvariant
  intro s t hinv h
  obtain ⟨-, rfl⟩ := step_next h
  obtain ⟨pc, hfetch⟩ := fetchInstr_frame s
  rw [hfetch]
  exact ⟨retire_effect_inv _ _ hinv, effect_ioLog_grows _ { s with pc := pc }⟩

end Sys2Proof

end

section
/-! PROOF. The stack, I/O and control instructions: encoding and effect of PUSH and POP (O50, O51), XTHL (O53), SPHL, EI, DI and
NOP (O54), HLT (O55), IN and OUT (O56) and the undocumented bytes (O57). -/

namespace Sys2Proof

open Machine

namespace Machine

/-! ## The stack -/

theorem setPSW_append (s : State) (hi lo : Byte) :
    s.setPSW (hi ++ lo) = { s.setReg .a hi with flags := Flags.ofByte lo } := by
  rw [State.setPSW, ← cat_eq, hiByte_cat, loByte_cat]

theorem popPair_psw (s : State) :
    s.popPair .psw =
      { s with regs := { s.regs with a := s.memRead (s.sp + 1) }, flags := Flags.ofByte (s.memRead s.sp), sp := s.sp + 2 } :=
  setPSW_append s.drop16 (s.memRead (s.sp + 1)) (s.memRead s.sp)

/-- XTHL puts L and H on the stack and the bytes that stood there into L and H (R149). -/
theorem exchangeTop_eq (s : State) :
    s.exchangeTop =
      ((s.memWrite16 s.sp s.hl).setReg .h (s.memRead (s.sp + 1))).setReg .l (s.memRead s.sp) :=
  setHL_append _ _ _

theorem memRead_exchangeTop (s : State) (a : Word) :
    s.exchangeTop.memRead a =
      if a = s.sp + 1 then s.reg .h else if a = s.sp then s.reg .l else s.memRead a := by
  have h : s.exchangeTop.memRead a = (s.memWrite16 s.sp s.hl).memRead a := rfl
  rw [h, memRead_memWrite16, State.hl, hiByte_cat, loByte_cat]

/-! ## The ports, with a handler and without -/

theorem portRead_of_handler {s : State} (h : s.ioPresent = true) (port : Byte) :
    ∃ v : Byte, s.portRead port = { s.setReg .a v with ioLog := s.ioLog ++ [.read port v] } := by
  obtain ⟨-, hread⟩ | ⟨hn, -⟩ := portRead_cases s port
  · exact hread
  · cases h.symm.trans hn

theorem portRead_of_noHandler {s : State} (h : s.ioPresent = false) (port : Byte) : s.portRead port = s := by
  obtain ⟨hy, -⟩ | ⟨-, hread⟩ := portRead_cases s port
  · cases h.symm.trans hy
  · exact hread

theorem portWrite_of_handler {s : State} (h : s.ioPresent = true) (port : Byte) :
    s.portWrite port = { s with ioLog := s.ioLog ++ [.write port (s.reg .a)] } := by
  obtain ⟨-, hwrite⟩ | ⟨hn, -⟩ := portWrite_cases s port
  · exact hwrite
  · cases h.symm.trans hn

theorem portWrite_of_noHandler {s : State} (h : s.ioPresent = false) (port : Byte) : s.portWrite port = s := by
  obtain ⟨hy, -⟩ | ⟨-, hwrite⟩ := portWrite_cases s port
  · cases h.symm.trans hy
  · exact hwrite

/-! ## The undocumented bytes -/

theorem undocReturn_eq (s : State) : s.undocReturn = if s.cfg.undocAlias = .chip then s.ret else s := by
  unfold State.undocReturn
  cases s.cfg.undocAlias <;> rfl

end Machine

/-- A byte that carries an address under `chip` only, decoded under both settings (R161). -/
theorem decode_undoc {op : Byte} {i : Option Word → Instr} (hnop : opcodeLength .nop op = 1)
    (hchip : opcodeLength .chip op = 3) (hmap : ∀ u d16, opcodeMap u 0 d16 op = i (u.pick none (some d16)))
    (lo hi : Byte) (rest : List Byte) :
    decode .nop (op :: rest) = .instr (i none) rest ∧
    decode .chip (op :: lo :: hi :: rest) = .instr (i (some (hi ++ lo))) rest := by
  rw [decode_one hnop, decode_three hchip, hmap, hmap]
  exact ⟨rfl, rfl⟩

/-! ## The statements -/

/-- Settles O53: each of the two bytes and each of the two registers takes the other's value, and the frames of XTHL
keep the rest. -/
theorem exchangeTopEffect : Obligations.ExchangeTopEffect := by
  unfold Obligations.ExchangeTopEffect
  refine ⟨rfl, fun s => ⟨s.exchangeTop, exec_eq _ s, ?_, ?_, ?_, ?_, fun r hh hl => ?_, fun a hlo hhi => ?_, rfl⟩⟩
  · rw [exchangeTop_eq, reg_setReg_same]
  · rw [exchangeTop_eq, reg_setReg_other _ (by decide), reg_setReg_same]
  · rw [memRead_exchangeTop, if_neg (word_ne_add_one s.sp), if_pos rfl]
  · rw [memRead_exchangeTop, if_pos rfl]
  · exact effect_reg .xthl s (by simpa [Form.regWrites] using ⟨hh, hl⟩)
  · exact effect_memRead .xthl s (by simpa [Form.stores] using ⟨hlo, hhi⟩)

/-- Settles O50: the flag byte read back has its padding forced (O25). -/
theorem pushAndPopPswEffect : Obligations.PushAndPopPswEffect := by
  unfold Obligations.PushAndPopPswEffect
  exact ⟨rfl, rfl, rfl, rfl, rfl, fun s => ⟨exec_eq _ s, exec_eq _ s, exec_eq _ s, exec_eq _ s,
    _, exec_of_effect (f := .pop .psw) (popPair_psw s), rfl, rfl, toByte_ofByte _⟩⟩

/-- Settles O51: the popped word is two bytes, one for each register of the pair. -/
theorem popPairEffect : Obligations.PopPairEffect := by
  unfold Obligations.PopPairEffect
  exact fun s => ⟨⟨rfl, exec_of_effect (f := .pop .bc) (setBC_append s.drop16 _ _)⟩,
    ⟨rfl, exec_of_effect (f := .pop .de) (setDE_append s.drop16 _ _)⟩,
    ⟨rfl, exec_of_effect (f := .pop .hl) (setHL_append s.drop16 _ _)⟩⟩

/-- Settles O54, from the effect of each row. -/
theorem plainControlEffect : Obligations.PlainControlEffect := by
  unfold Obligations.PlainControlEffect
  exact fun s => ⟨⟨rfl, exec_eq _ s⟩, ⟨rfl, exec_eq _ s⟩, ⟨rfl, exec_eq _ s⟩, ⟨rfl, exec_eq _ s⟩⟩

/-- Settles O55: HLT sets the latch, and the latch stops the step. -/
theorem haltEffect : Obligations.HaltEffect := by
  unfold Obligations.HaltEffect
  exact ⟨rfl, fun s => ⟨s.halt, exec_eq _ s, rfl, step_of_halted rfl⟩⟩

/-- Settles O56, by whether there is a handler. -/
theorem portEffect : Obligations.PortEffect := by
  unfold Obligations.PortEffect
  refine fun port s => ⟨rfl, rfl, fun h => ⟨?_, ?_⟩, fun h => ⟨?_, ?_⟩⟩
  · obtain ⟨v, hread⟩ := portRead_of_handler h port
    exact ⟨v, exec_of_effect (f := .inp port) hread⟩
  · exact exec_of_effect (f := .outp port) (portWrite_of_handler h port)
  · exact exec_of_effect (f := .inp port) (portRead_of_noHandler h port)
  · exact exec_of_effect (f := .outp port) (portWrite_of_noHandler h port)

/-- Settles O57: each byte by its row of the opcode map and the effect of its form. -/
theorem undocumentedByteEffect : Obligations.UndocumentedByteEffect := by
  unfold Obligations.UndocumentedByteEffect
  refine ⟨fun n s => ⟨?_, exec_instr _ s⟩, fun lo hi rest s => ?_⟩
  · obtain ⟨-, -, -, -, -, -, -, -, -, -, -, -, -, -, -, -, -, -, -, -, -, hAlias, -⟩ := opcodesHaveTheirFieldCodes
    exact encode_instr (hAlias n)
  · obtain ⟨hCB, hCB'⟩ := decode_undoc (op := 0xCB) (i := .undocCB) rfl rfl (fun _ _ => rfl) lo hi rest
    obtain ⟨hDD, hDD'⟩ := decode_undoc (op := 0xDD) (i := .undocDD) rfl rfl (fun _ _ => rfl) lo hi rest
    obtain ⟨hED, hED'⟩ := decode_undoc (op := 0xED) (i := .undocED) rfl rfl (fun _ _ => rfl) lo hi rest
    obtain ⟨hFD, hFD'⟩ := decode_undoc (op := 0xFD) (i := .undocFD) rfl rfl (fun _ _ => rfl) lo hi rest
    exact ⟨⟨hCB, exec_eq _ s⟩, ⟨hCB', exec_eq _ s⟩, ⟨hDD, exec_eq _ s⟩, ⟨hDD', exec_eq _ s⟩,
      ⟨hED, exec_eq _ s⟩, ⟨hED', exec_eq _ s⟩, ⟨hFD, exec_eq _ s⟩, ⟨hFD', exec_eq _ s⟩,
      decode_one rfl rest, decode_one rfl rest, exec_of_effect (f := .undocRet) (undocReturn_eq s)⟩

end Sys2Proof

end

section
/-! PROOF. Nothing stops an instruction (O16) or the step of a core that is not halted (O9); interrupt entry: when it is admitted and
what it does (O58), and RET as the way back from it (O59). -/

namespace Sys2Proof

open Machine

namespace Machine

/-! ## The step of a core that is not halted -/

theorem step_of_notHalted {s : State} (h : s.halted = false) :
    step s = .next ((s.fetchInstr.1.form.effect s.fetchInstr.2).retire s.fetchInstr.1) := by
  rw [step_eq, if_neg (by simp [h])]

/-! ## When interrupt entry is admitted -/

/-- Entry on a core that is not halted and has IE set: only the vector is left to ask for (R165, R167). -/
theorem raiseInterrupt_of_enabled {s : State} (hs : s.halted = false) (hie : s.ie = true) (n : Nat) :
    raiseInterrupt n s = if 7 < n then .refused .vectorOutOfRange else .next (s.enterInterrupt n) := by
  simp [raiseInterrupt, hs, hie]

theorem raiseInterrupt_of_disabled {s : State} (hs : s.halted = false) (hie : s.ie = false) (n : Nat) :
    raiseInterrupt n s = .refused .interruptWhileDisabled := by
  simp [raiseInterrupt, hs, hie]

/-! ## Interrupt entry is a call of 8 × n with IE cleared -/

theorem enterInterrupt_eq_call (s : State) (n : Nat) :
    s.enterInterrupt n = { s.call (BitVec.ofNat 16 (8 * n)) with ie := false } := rfl

theorem enterInterrupt_mem (s : State) (n : Nat) : (s.enterInterrupt n).mem = (s.push16 s.pc).mem := rfl

/-- RET neither reads nor writes IE (R133). -/
theorem ret_withIe (s : State) (b : Bool) : { s with ie := b }.ret = { s.ret with ie := b } := rfl

/-- A RET from the handler goes back to where the interrupt came in, with IE still clear (R169). -/
theorem ret_enterInterrupt (s : State) (n : Nat) :
    (s.enterInterrupt n).ret = { s with mem := (s.enterInterrupt n).mem, ie := false } := by
  rw [enterInterrupt_eq_call, ret_withIe, ret_call]
  rfl

/-- What entry leaves in memory: the bytes of pc below the stack, as numbers, and the rest as before (R164, R35). -/
theorem memRead_enterInterrupt (s : State) (n : Nat) :
    (s.enterInterrupt n).memRead (s.sp - 1) = BitVec.ofNat 8 (s.pc.toNat / 256) ∧
    (s.enterInterrupt n).memRead (s.sp - 2) = BitVec.ofNat 8 (s.pc.toNat % 256) ∧
    ∀ a : Word, a ≠ s.sp - 1 → a ≠ s.sp - 2 → (s.enterInterrupt n).memRead a = s.memRead a := by
  simp only [memRead_congr (enterInterrupt_mem s n), ← hiByte_eq_ofNat, ← loByte_eq_ofNat]
  exact ⟨memRead_push16_high s s.pc, memRead_push16_low s s.pc, fun _ hhi hlo => memRead_push16_ne s s.pc hhi hlo⟩

/-- Entry writes memory, sp, pc and IE only (R164). -/
theorem enterInterrupt_eq (s : State) (n : Nat) :
    s.enterInterrupt n =
      { s with mem := (s.enterInterrupt n).mem, sp := s.sp - 2, pc := BitVec.ofNat 16 (8 * n), ie := false } := rfl

end Machine

/-! ## What no execute phase writes -/

theorem effect_lastCycles (f : Form) (s : State) : (f.effect s).lastCycles = s.lastCycles := by
  obtain ⟨_, _, _, _, h⟩ | ⟨-, _, _, _, h⟩ | ⟨-, _, _, h⟩ | ⟨-, _, h⟩ | ⟨-, _, h⟩ := effect_cases f s <;> rw [h]

theorem effect_ioPresent (f : Form) (s : State) : (f.effect s).ioPresent = s.ioPresent := by
  obtain ⟨_, _, _, _, h⟩ | ⟨-, _, _, _, h⟩ | ⟨-, _, _, h⟩ | ⟨-, _, h⟩ | ⟨-, _, h⟩ := effect_cases f s <;> rw [h]

/-! ## The statements -/

/-- Settles O9: a step stops only at the latch, since the fetch and the execute phase always answer. -/
theorem stepAlwaysAnswers : Obligations.StepAlwaysAnswers := by
  unfold Obligations.StepAlwaysAnswers
  exact fun s hs => ⟨_, step_of_notHalted hs⟩

/-- Settles O16: the answer is the effect of the instruction's form, and no form writes these fields. -/
theorem everyInstructionCompletes : Obligations.EveryInstructionCompletes := by
  unfold Obligations.EveryInstructionCompletes
  exact fun i s => ⟨i.form.effect s, exec_eq i s, effect_lastCycles i.form s, effect_cfg i.form s, effect_draws i.form s,
    effect_ioPresent i.form s⟩

/-- Settles O58, by what the host's request meets: an admitted vector, the latch, IE clear, or a vector out of range. -/
theorem interruptEntryEffect : Obligations.InterruptEntryEffect := by
  unfold Obligations.InterruptEntryEffect
  refine fun n s => ⟨fun hs hie hn => ?_, fun hs => if_pos hs, fun hs hie => raiseInterrupt_of_disabled hs hie n,
    fun hs hie hn => (raiseInterrupt_of_enabled hs hie n).trans (if_pos hn)⟩
  obtain ⟨hhigh, hlow, hother⟩ := memRead_enterInterrupt s n
  exact ⟨s.enterInterrupt n, (raiseInterrupt_of_enabled hs hie n).trans (if_neg (not_lt.2 hn)), hhigh, hlow, hother,
    enterInterrupt_eq s n⟩

/-- Settles O59: a restart is the call that entry makes, and the return undoes that call. -/
theorem interruptIsRestartThenReturn : Obligations.InterruptIsRestartThenReturn := by
  unfold Obligations.InterruptIsRestartThenReturn
  intro n s hs hie
  have hn : ¬ 7 < n.val := not_lt.2 (Nat.le_of_lt_succ n.isLt)
  exact ⟨s.restart n, s.enterInterrupt n, _, exec_instr _ s, (raiseInterrupt_of_enabled hs hie n).trans (if_neg hn),
    enterInterrupt_eq_call s n, exec_of_effect (f := .ret) (ret_enterInterrupt s n), rfl⟩

end Sys2Proof

end

section
/-! PROOF. What the machine holds at construction (O12). -/

namespace Sys2Proof

open Machine

/-- The list of a new memory is empty, so every address reads as the byte an unlisted one does (R27, R178). -/
theorem memRead_construct (init : Init) (cfg : Params) (io : Bool) (a : Word) :
    (State.construct init cfg io).memRead a = 0x00 := rfl

/-- Settles O12: memory reads as zero everywhere, and each of the other items is a field that construction sets. -/
theorem constructionState : Obligations.ConstructionState := by
  unfold Obligations.ConstructionState
  exact fun init cfg io => ⟨memRead_construct init cfg io, rfl, rfl, rfl, rfl, rfl, rfl, rfl⟩

end Sys2Proof

end

section
/-! PROOF. Construction meets the invariant (O13), and every operation of the host keeps it, so every run does (O15). -/

namespace Sys2Proof

open Machine

namespace Machine

/-! ## What each of the host's operations can answer -/

/-- Everything an interrupt entry that is admitted asks for and does (R164, R165, R167). -/
theorem raiseInterrupt_next {n : Nat} {s t : State} (h : raiseInterrupt n s = .next t) :
    s.halted = false ∧ s.ie = true ∧ n ≤ 7 ∧ t = s.enterInterrupt n := by
  unfold raiseInterrupt at h
  split at h
  · cases h
  · next hs =>
    split at h
    · cases h
    · next hie =>
      split at h
      · cases h
      · next hn =>
        exact ⟨Bool.eq_false_of_not_eq_true hs, Bool.eq_true_of_not_eq_false hie, not_lt.1 hn, (Host.Outcome.next.inj h).symm⟩

/-- Everything a memory load that answers asks for and does (R46). -/
theorem load_next {offset : Word} {bytes : List Byte} {s t : State} (h : load offset bytes s = .next t) :
    s.halted = false ∧ offset.toNat + bytes.length ≤ 65536 ∧ t = s.memWriteList offset bytes := by
  unfold load at h
  split at h
  · cases h
  · next hs =>
    split at h
    · cases h
    · next hfits => exact ⟨Bool.eq_false_of_not_eq_true hs, not_lt.1 hfits, (Host.Outcome.next.inj h).symm⟩

/-! ## Runs -/

/-- A run that answers is a first operation that answers and a run from there. -/
theorem hostRun_cons_next {op : HostOp} {ops : List HostOp} {s t : State} (h : hostRun (op :: ops) s = .next t) :
    ∃ u : State, hostStep op s = .next u ∧ hostRun ops u = .next t := by
  unfold hostRun at h
  split at h
  · next u hu => exact ⟨u, hu, h⟩
  · cases h
  · cases h

/-- What every operation of the host keeps, every run keeps. -/
theorem hostRun_keeps {P : State → Prop}
    (hop : ∀ (op : HostOp) (u v : State), P u → hostStep op u = .next v → P v)
    {ops : List HostOp} {s t : State} (hs : P s) (h : hostRun ops s = .next t) : P t := by
  induction ops generalizing s with
  | nil => exact Host.Outcome.next.inj h ▸ hs
  | cons op ops ih =>
    obtain ⟨u, hu, hrun⟩ := hostRun_cons_next h
    exact ih (hop op s u hs hu) hrun

/-! ## The invariant -/

/-- The memory list of a new machine is empty, and so is its log. -/
theorem construct_inv (init : Init) (cfg : Params) (io : Bool) : (State.construct init cfg io).Inv :=
  ⟨rfl, Nat.le_refl 0⟩

/-- Entry is a push as far as the invariant goes. -/
theorem enterInterrupt_inv {s : State} (n : Nat) (h : s.Inv) : (s.enterInterrupt n).Inv := by
  obtain ⟨hwf, hlog⟩ := h
  exact ⟨wf_congr (enterInterrupt_mem s n) (push16_wf s s.pc hwf), hlog⟩

theorem memWriteList_inv {s : State} (a : Word) (bytes : List Byte) (h : s.Inv) : (s.memWriteList a bytes).Inv := by
  obtain ⟨hwf, hlog⟩ := h
  refine ⟨memWriteList_wf s a bytes hwf, ?_⟩
  rw [memWriteList_eq]
  exact hlog

end Machine

/-! ## The parameters -/

theorem memWriteList_cfg (s : State) (a : Word) (bytes : List Byte) : (s.memWriteList a bytes).cfg = s.cfg := by
  rw [memWriteList_eq]

/-- A step does not write the parameters: the fetch moves pc only, and no form writes them. -/
theorem step_cfg {s t : State} (h : step s = .next t) : t.cfg = s.cfg := by
  obtain ⟨-, rfl⟩ := step_next h
  obtain ⟨pc, hfetch⟩ := fetchInstr_frame s
  rw [hfetch]
  exact effect_cfg _ { s with pc := pc }

/-! ## The operations of the host -/

/-- Whether a step has a handler is not in the invariant, so a step keeps it by O14 whatever the host decides. -/
theorem hostStep_inv {op : HostOp} {s t : State} (hinv : s.Inv) (h : hostStep op s = .next t) : t.Inv := by
  cases op with
  | step ioPresent =>
    obtain ⟨ht, -⟩ := stepKeepsInvariant { s with ioPresent := ioPresent } t hinv h
    exact ht
  | interrupt n =>
    obtain ⟨-, -, -, rfl⟩ := raiseInterrupt_next h
    exact enterInterrupt_inv n hinv
  | load offset bytes =>
    obtain ⟨-, -, rfl⟩ := load_next h
    exact memWriteList_inv offset bytes hinv

theorem hostStep_cfg {op : HostOp} {s t : State} (h : hostStep op s = .next t) : t.cfg = s.cfg := by
  cases op with
  | step ioPresent => exact step_cfg (s := { s with ioPresent := ioPresent }) h
  | interrupt n =>
    obtain ⟨-, -, -, rfl⟩ := raiseInterrupt_next h
    exact enterInterrupt_cfg s n
  | load offset bytes =>
    obtain ⟨-, -, rfl⟩ := load_next h
    exact memWriteList_cfg s offset bytes

/-! ## The statements -/

/-- Settles O13: `State.reset` is one of the states at construction. -/
theorem constructionMeetsInvariant : Obligations.ConstructionMeetsInvariant := by
  unfold Obligations.ConstructionMeetsInvariant
  exact ⟨construct_inv, construct_inv Init.zero Params.default false⟩

/-- Settles O15: the invariant and the parameters of the first state are kept by each operation, so by the run. -/
theorem everyRunKeepsInvariant : Obligations.EveryRunKeepsInvariant := by
  unfold Obligations.EveryRunKeepsInvariant
  intro ops s t hinv h
  refine hostRun_keeps (P := fun u => u.Inv ∧ u.cfg = s.cfg) (fun op u v hu hv => ?_) ⟨hinv, rfl⟩ h
  obtain ⟨huinv, hucfg⟩ := hu
  exact ⟨hostStep_inv huinv hv, (hostStep_cfg hv).trans hucfg⟩

end Sys2Proof

end
